-- ==== Sys2Proof/Word.lean ====
section
/-! DEFINITION. The word types of the 2416 (spec/00_scope.md, "Sizes"). -/

namespace Sys2Proof

/-- A byte, 8 bits. -/
abbrev Byte := BitVec 8

/-- A half-word of a memory format, and a sample word: 16 bits. -/
abbrev Half := BitVec 16

/-- A word of a memory format, an address, a tick: 32 bits. -/
abbrev Word := BitVec 32

end Sys2Proof
end

