-- ==== Sys2Proof/Syntax.lean ====
section
/-! DEFINITION. The commands of the 2416: one constructor for each row of spec/opcode_table.json, with the
operands the event carries. -/

namespace Sys2Proof

/-- A stream number, 0 to 63. -/
abbrev StreamId := Fin 64

/-- The two serial links (R97). -/
inductive LinkId where
  | a | b
deriving DecidableEq, Repr

/-- The size of an access to the register window (R170). That the widths below 32 bits are 8 and 16, with no access of
three bytes, is the model's choice (log 31). -/
inductive AccessSize where
  | byte | half | word
deriving DecidableEq, Repr

/-- The commands. Register writes carry the value the host writes; a completed read carries the bytes memory
returned, byte i of the read in bits 8i to 8i + 7; a symbol carries its link. An order row (OPEN_STREAM and the
others) carries nothing: its fields are those of the record the Order Walker fetched (R130). -/
inductive Instr where
  /-- A 32-bit CONTROL write with NUDGE and SRST 0 (R171). -/
  | run (value : Word)
  /-- A 32-bit CONTROL write with NUDGE 1 and SRST 0 (R171, R133). -/
  | nudge (value : Word)
  /-- A 32-bit CONTROL write with SRST 1 (R171, R178). -/
  | srst (value : Word)
  | causeClear (value : Word)
  | enableWrite (value : Word)
  | rootWrite (value : Word)
  /-- A write the window answers and ignores (R170). -/
  | registerWriteIgnored (offset : BitVec 5) (size : AccessSize) (value : Word)
  | pinReset
  | pinResetRelease
  | rootReadComplete (record : BitVec 256)
  | memoryGrant
  | memoryResponse
  | busError
  | busTimeout
  | tick
  | headExpiry (stream : StreamId)
  | silenceExpiry (stream : StreamId)
  | ageExpiry (stream : StreamId)
  | sweepTimerExpiry
  | tallyTimerExpiry
  | idleSymbol (link : LinkId)
  | startSymbol (link : LinkId)
  | dataSymbol (link : LinkId) (value : Byte)
  | endSymbol (link : LinkId)
  | violationSymbol (link : LinkId)
  | lineLoss (link : LinkId)
  | take
  | offer
  | orderFetchComplete (record : BitVec 512)
  | openStream
  | drainClose
  | immediateClose
  | alterStream
  | attachPages
  | flushPage
  | setRoute
  | clearRoute
  | setLink
  | writeTally
  | readStrays
  | barrier
  | linkReadComplete (value : Word)
  | outcomeStateWriteComplete
  | strayEntryWriteComplete
  | recordOperation
  | recordWriteComplete
  | pageCloseIssue
  | pageCloseComplete
  | returnIssue
  | returnComplete
  | tallySnapshot
  | tallyWriteComplete
deriving DecidableEq, Repr

end Sys2Proof
end

