-- ==== Sys2Proof/WellFormed.lean ====
section
/-! DEFINITION. Which commands are well formed: a CONTROL write stands under the row that its bits select
(R171), and an ignored write is one that R170 says is ignored, or one that log 27 does. Every other operand is in range
by its type. -/

namespace Sys2Proof

/-- The window offsets of the registers a write is ignored at: IDENT, STATE, FAULT ADDRESS, TICK (R170). -/
def readOnlyOffset (offset : BitVec 5) : Bool :=
  offset == 0x00#5 || offset == 0x08#5 || offset == 0x18#5 || offset == 0x1C#5

/-- An offset that is no multiple of 4: a 32-bit write there is ignored (log 27). -/
def unalignedOffset (offset : BitVec 5) : Bool := offset.extractLsb' 0 2 != 0#2

/-- A command is well formed. CONTROL bit 1 is NUDGE and bit 2 is SRST (chapter 11, section 11.1). -/
def WellFormed : Instr → Bool
  | .run v => !v.getLsbD 1 && !v.getLsbD 2
  | .nudge v => v.getLsbD 1 && !v.getLsbD 2
  | .srst v => v.getLsbD 2
  | .registerWriteIgnored offset size _ => (size != .word) || readOnlyOffset offset || unalignedOffset offset
  | .causeClear _ | .enableWrite _ | .rootWrite _ | .pinReset | .pinResetRelease
  | .rootReadComplete _ | .memoryGrant | .memoryResponse | .busError | .busTimeout
  | .tick | .headExpiry _ | .silenceExpiry _ | .ageExpiry _ | .sweepTimerExpiry | .tallyTimerExpiry
  | .idleSymbol _ | .startSymbol _ | .dataSymbol _ _ | .endSymbol _ | .violationSymbol _ | .lineLoss _
  | .take | .offer | .orderFetchComplete _ | .openStream | .drainClose | .immediateClose | .alterStream
  | .attachPages | .flushPage | .setRoute | .clearRoute | .setLink | .writeTally | .readStrays | .barrier
  | .linkReadComplete _ | .outcomeStateWriteComplete | .strayEntryWriteComplete
  | .recordOperation | .recordWriteComplete | .pageCloseIssue | .pageCloseComplete
  | .returnIssue | .returnComplete | .tallySnapshot | .tallyWriteComplete => true

end Sys2Proof
end

