-- ==== Sys2Proof/Decode.lean ====
section
/-! DEFINITION. Commands as table words: no row of spec/opcode_table.json gives bits. -/

namespace Sys2Proof

/-- The command a word spells by the table's bits. The rows of spec/opcode_table.json are events and give none, so no
word spells a command (log 25). -/
def decodeTableWord (_nbits _w : Nat) : Option Instr := none

end Sys2Proof
end

