-- ==== Sys2Proof/Config.lean ====
section
/-! DEFINITION. The figures the manual fixes for the part (spec/00_scope.md, "Principal figures") and the free
values: what the manual leaves open and the machine goes on. A free value has no body: no proof can rest on it. -/

namespace Sys2Proof.Config

/-- The Memory Port timeout, in reference clock periods (R180). -/
def timeoutPeriods : Nat := 65536

/-- The periods without a symbol that make a line-loss event (R98). -/
def lineLossPeriods : Nat := 1024

/-- The burst buffers of the Burst Store (R16). -/
def bufferCount : Nat := 512

/-- The places of a stream's page supply (R77). -/
def supplyRoom : Nat := 16

/-- The places of the Stray List (R120). -/
def strayRoom : Nat := 8

/-- The bytes of the largest valid frame (R104). -/
def frameBytes : Nat := 142

/-- The page header's bytes (R78). -/
def pageHeaderBytes : Nat := 32

/-- The value IDENT reads (R172): family 2416h, revision 1. -/
def ident : Word := 0x24160001#32

/-- The root record's signature (chapter 12, "Root record"). -/
def rootSignature : Word := 0x2416A5C3#32

/-- The minimum margin that stands for no burst stored (R21). -/
def noMargin : Word := 0x7FFFFFFF#32

/-- FREE VALUE (log 6). Whether byte i of a write abandoned by a fault or a reset reached memory; the first
argument is the count of free values used before. R178: it "may or may not have reached memory". -/
opaque abandonedLands : Nat → Nat → Bool

/-- FREE VALUE (log 4). Whether a bus timeout is taken before a tick or a line-loss event of the same
reference clock period; the argument is the count of free values used before. -/
opaque timeoutFirst : Nat → Bool

end Sys2Proof.Config
end

