-- ==== Sys2Proof/Machine/State.lean ====
section
/-! DEFINITION. The state of the 2416: every register, queue, buffer, counter and mode the manual gives the part,
block by block, and its value after reset. -/

namespace Sys2Proof.Machine

open Sys2Proof

/-! ### The global state machine and the registers (chapter 11) -/

/-- The five steps of the stop sequence (R175). -/
inductive StopStep where
  /-- Step 1: the order in progress finishes. -/
  | order
  /-- Step 2: held orders are refused STOPPED. -/
  | held
  /-- Step 3: both links go OFF. -/
  | links
  /-- Step 4: every open stream is closed. -/
  | streams
  /-- Step 5: pending tallies are written. -/
  | tallies
deriving DecidableEq, Repr

/-- The global states (section 11.2); STOPPING carries the step of the stop sequence it stands at. -/
inductive GlobalState where
  | idle | starting | active | stopping (step : StopStep) | faulted
deriving DecidableEq, Repr

/-- The fault reasons the STATE register shows (section 11.1). -/
inductive FaultReason where
  | none | root | badLink | busError | busTimeout
deriving DecidableEq, Repr

/-! ### Streams (chapters 1, 2 and 4) -/

/-- The six stream states (section 1.2). -/
inductive StreamState where
  | closed | acquiring | running | stalled | cut | draining
deriving DecidableEq, Repr

/-- The fill policies (R60). -/
inductive FillPolicy where
  | constant | repeatStore | markOnly
deriving DecidableEq, Repr

/-- A stream's options (R1). -/
structure Options where
  markSync : Bool
  acceptTest : Bool
  notifyPages : Bool
  notifyAlarms : Bool
deriving DecidableEq, Repr

/-- A stream's configuration (R1). -/
structure StreamConfig where
  /-- W, the window size. -/
  w : Nat
  /-- Q, the delivery queue capacity. -/
  q : Nat
  /-- L, the nominal length. -/
  l : Nat
  /-- P, the burst period in ticks. -/
  p : Word
  /-- D, the playout delay in ticks. -/
  d : Word
  /-- The page size code, 0 to 3. -/
  sizeCode : Nat
  fillPolicy : FillPolicy
  fillWord : Half
  /-- F, the fill limit. -/
  f : Nat
  /-- K, the resync threshold. -/
  k : Nat
  /-- The silence period, in units of 1,000 ticks. -/
  silence : Half
  /-- The page age limit, in units of 1,000 ticks. -/
  ageLimit : Half
  options : Options
deriving DecidableEq, Repr

/-- A Burst Store buffer number (R16). -/
abbrev BufferId := Fin 512

/-- A burst held in a slot of the reorder window (R23). -/
structure Burst where
  buffer : BufferId
  sequence : Half
  length : Nat
  originTime : Word
  mark : Bool
  test : Bool
  link : LinkId
  arrival : Word
deriving DecidableEq, Repr

/-- The pending notes (R3, R67). -/
structure Notes where
  skipped : Half
  starved : Half
  resync : Bool
  stall : Bool
  cut : Bool
deriving DecidableEq, Repr

/-- The kinds of a released record (R56). -/
inductive RecordKind where
  | data | fill
deriving DecidableEq, Repr

/-- Where a record's samples are (R56): in a buffer, as copies of a fill word, or nowhere. -/
inductive RecordContent where
  | buffer (b : BufferId)
  | fillWord (value : Half)
  | empty
deriving DecidableEq, Repr

/-- A released record in a delivery queue (R56). The RESYNC, STALL and CUT flags and the skipped and starved
counts are the notes it took on entering the queue (R68). -/
structure QueueRecord where
  kind : RecordKind
  sequence : Half
  releaseTick : Word
  count : Nat
  content : RecordContent
  link : Option LinkId
  originTime : Word
  mark : Bool
  test : Bool
  repeated : Bool
  notes : Notes
deriving DecidableEq, Repr

/-- The thirteen counters of a stream (R20). -/
structure StreamCounters where
  releasedData : Word
  fillRecords : Word
  skippedSequences : Word
  late : Word
  duplicate : Word
  early : Word
  unsynced : Word
  resyncs : Word
  stalls : Word
  cuts : Word
  starved : Word
  flushed : Word
  pagesClosed : Word
deriving DecidableEq, Repr

/-- Why a page is closed (R78). -/
inductive CloseReason where
  | full | age | flush | close | stop
deriving DecidableEq, Repr

/-- Where a running closing sequence stands (R12): waiting for the stream's lane operation (step 1), for its page
close (step 2), for its return to be issued, or for the return to complete (step 3). -/
inductive ClosePhase where
  | waitLane | waitClose | returnDue | returning
deriving DecidableEq, Repr

/-- A stream's closing sequence: its reason, its step, and its returned count (R12, R94). -/
structure Closing where
  reason : CloseReason
  phase : ClosePhase
  returned : Nat
deriving DecidableEq, Repr

/-- The context of one stream (section 1.1). The closing flag is set exactly when `closing` is present. -/
@[ext]
structure Stream where
  state : StreamState
  config : StreamConfig
  head : Half
  headDeadline : Word
  anchoredOnce : Bool
  fillsInRow : Nat
  earlyRun : Nat
  /-- The W slots, by offset. -/
  window : List (Option Burst)
  notes : Notes
  /-- Oldest first. -/
  queue : List QueueRecord
  repeatStore : List Half
  closing : Option Closing
  counters : StreamCounters
  /-- Signed (R21). -/
  minMargin : Word
  changed : Bool
deriving DecidableEq, Repr

/-- The Burst Store (R16): what the 512 buffers hold, the free pool, the reservation total. -/
structure BurstStore where
  buffers : Vector (List Half) 512
  pool : List BufferId
  reserved : Nat
deriving DecidableEq, Repr

/-! ### Time Base and Deadline Queue (chapter 3) -/

/-- The kinds of deadline (section 3.3). -/
inductive DeadlineKind where
  | head | silence | age
deriving DecidableEq, Repr

/-- An entry of the Deadline Queue (R44). -/
structure Deadline where
  stream : StreamId
  kind : DeadlineKind
  due : Word
deriving DecidableEq, Repr

/-- A device timer (section 3.6); the interval is in units of 1,000 ticks. -/
structure Timer where
  armed : Bool
  due : Word
  interval : Half
deriving DecidableEq, Repr

/-- The Time Base (R41, R42, R44, R52, R53). -/
structure TimeBase where
  tick : Word
  divider : Nat
  divCount : Nat
  /-- Nearest first. -/
  deadlines : List Deadline
  sweep : Timer
  tally : Timer
deriving DecidableEq, Repr

/-! ### Delivery Engine (chapter 5) -/

/-- A page the Delivery Engine fills (R78). -/
structure Page where
  addr : Word
  used : Nat
  count : Nat
  firstSequence : Half
  lastSequence : Half
  openTick : Word
deriving DecidableEq, Repr

/-- A closing page (R78); `issued` tells whether its close operation has been issued (R81). -/
structure ClosingPage where
  page : Page
  reason : CloseReason
  flushWaits : Bool
  issued : Bool
deriving DecidableEq, Repr

/-- A stream's page state (R77, R78). -/
@[ext]
structure PageState where
  /-- Oldest attachment first. -/
  supply : List Word
  current : Option Page
  closingPage : Option ClosingPage
  serial : Word
deriving DecidableEq, Repr

/-! ### Memory Port (chapter 11, section 11.6) -/

/-- The requesters of the Memory Port (R179). -/
inductive Requester where
  | walker | delivery | tally
deriving DecidableEq, Repr

/-- What a transaction is for. A flag `last` marks the last transaction of its run. -/
inductive TxRole where
  | rootRead
  | linkRead
  | orderFetch
  /-- The result code and value of an outcome (R131). -/
  | outcomeResult
  /-- The state of an outcome: a final state, or TAKEN (R131). -/
  | outcomeState (final : Bool)
  | strayEntry (last : Bool)
  /-- A part of a record write (R83). -/
  | recordPart (last : Bool)
  /-- Bytes 4 to 31 of a page header (R87). -/
  | pageHeader
  /-- The state word CLOSED (R87). -/
  | pageState
  /-- The state word RETURNED (R94). -/
  | pageReturn (last : Bool)
  | tallyOdd
  | tallyBody
  | tallyEven
deriving DecidableEq, Repr

/-- What a transaction moves: it reads so many bytes, or writes these. -/
inductive TxBody where
  | read (bytes : Nat)
  | write (data : List Byte)
deriving DecidableEq, Repr

/-- A memory transaction (R179). -/
structure Tx where
  addr : Word
  body : TxBody
  role : TxRole
deriving DecidableEq, Repr

/-- The transaction in flight and the reference clock periods since its grant (R180). -/
structure Flight where
  tx : Tx
  periods : Nat
deriving DecidableEq, Repr

/-- The Memory Port (R179). -/
structure Port where
  flight : Option Flight
  lastGranted : Requester
deriving DecidableEq, Repr

/-- An operation of the write lane (R80); a record operation keeps the tick at which it began (R83). -/
inductive LaneOp where
  | record (stream : StreamId) (begun : Word)
  | pageClose (stream : StreamId)
  | giveBack (stream : StreamId)
deriving DecidableEq, Repr

/-- The write lane (R80, R82): its operation, the operation's transactions not yet issued, the stream last served. -/
structure Lane where
  op : Option LaneOp
  todo : List Tx
  last : StreamId
deriving DecidableEq, Repr

/-! ### Link Receivers (chapter 6) -/

/-- The link states (section 6.2). -/
inductive LinkState where
  | off | hunt | up
deriving DecidableEq, Repr

/-- The frame assembly states (R103). -/
inductive Assembly where
  | outside | inFrame | discarding
deriving DecidableEq, Repr

/-- The burst of a good frame (R106); its length n is the number of its samples. -/
structure Frame where
  tag : Half
  sequence : Half
  originTime : Word
  mark : Bool
  test : Bool
  samples : List Half
deriving DecidableEq, Repr

/-- A staging buffer (R106). -/
inductive Staging where
  | free
  | full (frame : Frame)
  | held (frame : Frame)
deriving DecidableEq, Repr

/-- The counters of a receiver (R108). -/
structure LinkCounters where
  good : Word
  checkErrors : Word
  formatErrors : Word
  overruns : Word
  linkOffDrops : Word
deriving DecidableEq, Repr

/-- A Link Receiver (chapter 6). -/
@[ext]
structure Receiver where
  state : LinkState
  filterValue : Half
  filterMask : Half
  idleRun : Nat
  violationRun : Nat
  lossCount : Nat
  /-- A symbol was taken in the present reference clock period (R98). -/
  symbolTaken : Bool
  assembly : Assembly
  /-- The bytes assembled so far, in the order received; their number is the byte count. -/
  bytes : List Byte
  /-- The running frame check over `bytes` (R103, R181). -/
  check : Word
  staging : Vector Staging 2
  /-- The FULL buffers, oldest first (R106). -/
  order : List (Fin 2)
  counters : LinkCounters
deriving DecidableEq, Repr

/-! ### Acceptance Unit (chapter 7) -/

/-- A valid Route Table entry (R115); the mask has bit 0 for link A and bit 1 for link B. -/
structure Route where
  tag : Half
  mask : BitVec 2
  stream : StreamId
deriving DecidableEq, Repr

/-- A Stray List entry (R120). -/
structure Stray where
  tag : Half
  sequence : Half
  length : Nat
  link : LinkId
  arrival : Word
deriving DecidableEq, Repr

/-- The frame the Acceptance Unit holds while HOLDING (R112, R119). -/
structure HeldFrame where
  link : LinkId
  index : Fin 2
  frame : Frame
  stream : StreamId
deriving DecidableEq, Repr

/-- The counters of the Acceptance Unit (R125). -/
structure AcceptanceCounters where
  filteredA : Word
  filteredB : Word
  strays : Word
  strayOverflows : Word
  wrongLink : Word
  closedStream : Word
  testDiscards : Word
deriving DecidableEq, Repr

/-- The Acceptance Unit (chapter 7); it is FREE exactly when `held` is absent. -/
structure Acceptance where
  held : Option HeldFrame
  lastLink : LinkId
  routes : Vector (Option Route) 64
  /-- Oldest first. -/
  strays : List Stray
  counters : AcceptanceCounters
deriving DecidableEq, Repr

/-! ### Orders and the Order Walker (chapters 8 and 9) -/

/-- What a WRITE TALLY names (R154). -/
inductive TallyTarget where
  | one (index : Fin 65)
  | all
deriving DecidableEq, Repr

/-- The fields an ALTER STREAM changes: those its change mask selects (R148). -/
structure Alteration where
  fillPolicy : Option FillPolicy
  fillWord : Option Half
  f : Option Nat
  k : Option Nat
  silence : Option Half
  ageLimit : Option Half
  options : Option Options
deriving DecidableEq, Repr

/-- An order whose code and fields have passed their checks (R141). -/
inductive Order where
  | openStream (stream : StreamId) (config : StreamConfig)
  | closeStream (stream : StreamId) (drain : Bool)
  | alterStream (stream : StreamId) (change : Alteration)
  | attachPages (stream : StreamId) (addrs : List Word)
  | flushPage (stream : StreamId)
  | setRoute (index : Fin 64) (route : Route)
  | clearRoute (index : Fin 64)
  | setLink (link : LinkId) (enable : Bool) (value : Half) (mask : Half)
  | writeTally (target : TallyTarget) (zero : Bool)
  | readStrays (buffer : Word)
  | barrier
deriving DecidableEq, Repr

/-- The result codes of DONE and of REFUSED (section 12.3). -/
inductive ResultCode where
  | ok | nothing | overtaken | somePart
  | badCode | badField | notOpen | busy | noRoom | conflict | badState | stopped
deriving DecidableEq, Repr

/-- An outcome's result code and value (R126). -/
structure Result where
  code : ResultCode
  value : Word
deriving DecidableEq, Repr

/-- A fetched order record as the walker remembers it: its address and bytes 1 to 3 of its first word, which
the state write puts back (R131). -/
structure RecordRef where
  addr : Word
  code : Byte
  flags : Byte
  spare : Byte
deriving DecidableEq, Repr

/-- An entry of the held-order list (R127): a held drain CLOSE STREAM. `takenWritten`: its TAKEN write has completed
(R136). `settled`: its final outcome is on the outcome list or its refusal has been issued (R135). -/
structure HeldDrain where
  ref : RecordRef
  stream : StreamId
  takenWritten : Bool
  settled : Bool
deriving DecidableEq, Repr

/-- The held BARRIER (R127, R137). -/
structure HeldBarrier where
  ref : RecordRef
  takenWritten : Bool
  settled : Bool
deriving DecidableEq, Repr

/-- A held order: a drain of a stream, or the barrier. -/
inductive HeldKind where
  | drain (stream : StreamId)
  | barrier
deriving DecidableEq, Repr

/-- An entry of the outcome list (R127). -/
structure OutcomeEntry where
  ref : RecordRef
  result : Result
  source : HeldKind
deriving DecidableEq, Repr

/-- What an outcome write puts into a record: TAKEN for a held order, or a final outcome, of the order being
walked (no source) or of a held order (R131, R136). -/
inductive OutcomeKind where
  | taken (source : HeldKind)
  | final (result : Result) (source : Option HeldKind)
deriving DecidableEq, Repr

/-- The outcome whose writes are being made; `resultDone`: the result write has completed, or there is none
to make (R131). -/
structure OutcomeWrite where
  ref : RecordRef
  kind : OutcomeKind
  resultDone : Bool
deriving DecidableEq, Repr

/-- The walker states (R127). -/
inductive WalkerState where
  | parked | walking | barrierWait
deriving DecidableEq, Repr

/-- What the walker is doing with the chain and the order it walks (R128 to R131). -/
inductive Activity where
  /-- Nothing: PARKED, in BARRIER WAIT, or past step 1 of the stop sequence. -/
  | idle
  /-- Reading the link word at the cursor. -/
  | linkRead
  /-- Fetching the record at an address. -/
  | fetch (addr : Word)
  /-- The order is passed to its owner, which has not taken it yet. -/
  | request (ref : RecordRef) (order : Order)
  /-- An immediate CLOSE STREAM waits for the closing sequence (R11). -/
  | waitClose (ref : RecordRef) (stream : StreamId)
  /-- A FLUSH PAGE waits for its page close (R92). -/
  | waitFlush (ref : RecordRef) (stream : StreamId)
  /-- A WRITE TALLY waits for its writes; its result value (R165). -/
  | waitTally (ref : RecordRef) (count : Word)
  /-- A READ STRAYS: the entry writes not yet issued, and its result value (R123). -/
  | strays (ref : RecordRef) (todo : List Tx) (count : Word)
  /-- The order's final outcome is to be written. -/
  | finish (ref : RecordRef) (result : Result)
  /-- TAKEN is to be written into the order's record. -/
  | taken (ref : RecordRef) (source : HeldKind)
deriving DecidableEq, Repr

/-- The Order Walker (R127). -/
@[ext]
structure Walker where
  cursor : Word
  state : WalkerState
  sweepPending : Bool
  activity : Activity
  /-- In the order in which they were taken. -/
  held : List HeldDrain
  heldBarrier : Option HeldBarrier
  /-- Oldest first. -/
  outcomes : List OutcomeEntry
  writing : Option OutcomeWrite
  ordersDone : Word
  ordersRefused : Word
deriving DecidableEq, Repr

/-! ### Tally Writer (chapter 10) -/

/-- The marks of a member of the tally-pending set (R163). -/
structure Marks where
  zero : Bool
  order : Bool
deriving DecidableEq, Repr

/-- The tally write in flight (R161): the record, whether it counts toward the WRITE TALLY in progress (R165), and the
transactions not yet issued, which hold the snapshot. -/
structure TallyWrite where
  index : Fin 65
  orderMark : Bool
  todo : List Tx
deriving DecidableEq, Repr

/-- The Tally Writer (chapter 10). -/
structure Tally where
  base : Word
  /-- The tally-pending set: a record is a member when its marks are present. -/
  pending : Vector (Option Marks) 65
  serials : Vector Word 65
  last : Fin 65
  write : Option TallyWrite
  /-- The device record's changed-since-snapshot flag. -/
  deviceChanged : Bool
deriving DecidableEq, Repr

/-! ### The whole part -/

/-- The state of the 2416, with the bytes its completed writes put into system memory (log 5), the model's count of
free values used (log 4, log 6), and the queue of waiting commands. -/
@[ext]
structure State where
  run : Bool
  global : GlobalState
  faultReason : FaultReason
  faultAddr : Word
  root : Word
  /-- CAUSE: ORDER, PAGE, ALARM, LINK, STRAY, STOPPED, FAULT at bits 0 to 6. -/
  cause : BitVec 7
  enable : BitVec 7
  /-- The reset input is asserted (R178). -/
  resetHeld : Bool
  time : TimeBase
  port : Port
  streams : Vector Stream 64
  store : BurstStore
  pages : Vector PageState 64
  lane : Lane
  rxA : Receiver
  rxB : Receiver
  acceptance : Acceptance
  walker : Walker
  tally : Tally
  sysMem : List Host.Cell
  freeCount : Nat
  pending : List Instr
deriving DecidableEq, Repr

/-- The one way a step stops. -/
inductive Fault where
  /-- Raised by OFFER and HEAD_EXPIRY when a stream claims a burst buffer and the free pool is empty. R18 and R19 say
  this cannot be: no run from reset reaches it. SAFE: the model stops where the manual gives no effect (log 21). -/
  | noFreeBuffer
deriving DecidableEq, Repr

/-- The reasons a command has no meaning. No meaning of this model answers one. -/
inductive Refusal where
  /-- Raised by a refused arm of `exec`: the command has no meaning yet. SAFE. -/
  | notModelled (mnemonic : String)
deriving DecidableEq, Repr

/-! ### Reset values, block by block -/

/-- No pending note (R22). -/
def Notes.clear : Notes := { skipped := 0, starved := 0, resync := false, stall := false, cut := false }

/-- All options off (R22). -/
def Options.off : Options :=
  { markSync := false, acceptTest := false, notifyPages := false, notifyAlarms := false }

/-- All thirteen counters 0 (R22). -/
def StreamCounters.zero : StreamCounters :=
  { releasedData := 0, fillRecords := 0, skippedSequences := 0, late := 0, duplicate := 0, early := 0,
    unsynced := 0, resyncs := 0, stalls := 0, cuts := 0, starved := 0, flushed := 0, pagesClosed := 0 }

/-- All configuration fields 0 (R22). -/
def StreamConfig.zero : StreamConfig :=
  { w := 0, q := 0, l := 0, p := 0, d := 0, sizeCode := 0, fillPolicy := .constant, fillWord := 0, f := 0, k := 0,
    silence := 0, ageLimit := 0, options := .off }

/-- A stream after reset (R22). -/
def Stream.reset : Stream :=
  { state := .closed, config := .zero, head := 0, headDeadline := 0, anchoredOnce := false, fillsInRow := 0,
    earlyRun := 0, window := [], notes := .clear, queue := [], repeatStore := [], closing := none,
    counters := .zero, minMargin := Config.noMargin, changed := false }

/-- The full pool (R22); the order of the list is log 8. -/
def BurstStore.fullPool : List BufferId := List.finRange 512

/-- The Burst Store after power-up; the buffers' contents are log 8. -/
def BurstStore.reset : BurstStore :=
  { buffers := Vector.replicate 512 [], pool := BurstStore.fullPool, reserved := 0 }

/-- A device timer after reset (R54). -/
def Timer.reset : Timer := { armed := false, due := 0, interval := 0 }

/-- The Time Base after reset (R54). -/
def TimeBase.reset : TimeBase :=
  { tick := 0, divider := 0, divCount := 0, deadlines := [], sweep := .reset, tally := .reset }

/-- A stream's page state after reset (R96). -/
def PageState.reset : PageState := { supply := [], current := none, closingPage := none, serial := 0 }

/-- The write lane after reset (R96). -/
def Lane.reset : Lane := { op := none, todo := [], last := 63 }

/-- The Memory Port after reset (R179). -/
def Port.reset : Port := { flight := none, lastGranted := .tally }

/-- A receiver's counters after reset (R111). -/
def LinkCounters.zero : LinkCounters :=
  { good := 0, checkErrors := 0, formatErrors := 0, overruns := 0, linkOffDrops := 0 }

/-- A Link Receiver after reset (R111); the running check is log 14, `symbolTaken` log 18. -/
def Receiver.reset : Receiver :=
  { state := .off, filterValue := 0, filterMask := 0, idleRun := 0, violationRun := 0, lossCount := 0,
    symbolTaken := false, assembly := .outside, bytes := [], check := 0xFFFFFFFF#32,
    staging := Vector.replicate 2 .free, order := [], counters := .zero }

/-- The Acceptance Unit's counters after reset (R125). -/
def AcceptanceCounters.zero : AcceptanceCounters :=
  { filteredA := 0, filteredB := 0, strays := 0, strayOverflows := 0, wrongLink := 0, closedStream := 0,
    testDiscards := 0 }

/-- The Acceptance Unit after reset (R125). -/
def Acceptance.reset : Acceptance :=
  { held := none, lastLink := .b, routes := Vector.replicate 64 none, strays := [], counters := .zero }

/-- The Order Walker after reset (R140). -/
def Walker.reset : Walker :=
  { cursor := 0, state := .parked, sweepPending := false, activity := .idle, held := [], heldBarrier := none,
    outcomes := [], writing := none, ordersDone := 0, ordersRefused := 0 }

/-- The Tally Writer after reset (R166). -/
def Tally.reset : Tally :=
  { base := 0, pending := Vector.replicate 65 none, serials := Vector.replicate 65 0, last := 64, write := none,
    deviceChanged := false }

/-- The part right after a pin reset (R178), the input released, with no command waiting. -/
def State.reset : State :=
  { run := false, global := .idle, faultReason := .none, faultAddr := 0, root := 0, cause := 0, enable := 0,
    resetHeld := false, time := .reset, port := .reset, streams := Vector.replicate 64 .reset, store := .reset,
    pages := Vector.replicate 64 .reset, lane := .reset, rxA := .reset, rxB := .reset, acceptance := .reset,
    walker := .reset, tally := .reset, sysMem := [], freeCount := 0, pending := [] }

end Sys2Proof.Machine
end

