-- ==== Sys2Proof/Machine/Memory.lean ====
section
/-! DEFINITION. System memory as the part's completed writes left it (log 5), and byte order: all formats in host
memory are little-endian (spec/00_scope.md, "Byte order"). -/

namespace Sys2Proof.Machine

open Sys2Proof

/-- The bytes the part's writes have put into system memory. An address that is not listed was written by no
completed write of the part: it reads as no value (log 5). -/
abbrev Memory := List Host.Cell

/-- The byte the part wrote last at an address, if it wrote any. -/
def Memory.read : Memory → Nat → Option Byte
  | [], _ => none
  | (x, b) :: m, a => if a = x then some b else Memory.read m a

/-- Writes one byte, keeping the addresses rising. -/
def Memory.put : Memory → Nat → Byte → Memory
  | [], a, b => [(a, b)]
  | (x, c) :: m, a, b =>
    if a < x then (a, b) :: (x, c) :: m
    else if a = x then (a, b) :: m
    else (x, c) :: Memory.put m a b

/-- The canonical form: addresses strictly rising. -/
def Memory.wf : Memory → Bool
  | [] => true
  | [_] => true
  | (x, _) :: (y, c) :: m => decide (x < y) && Memory.wf ((y, c) :: m)

/-- The address of byte i of a transaction; addresses are 32 bits and wrap (log 7). -/
def byteAddr (addr : Word) (i : Nat) : Nat := (addr + BitVec.ofNat 32 i).toNat

/-- Writes a transaction's bytes from byte i on. -/
def Memory.writeFrom (m : Memory) (addr : Word) : Nat → List Byte → Memory
  | _, [] => m
  | i, b :: bs => Memory.writeFrom (m.put (byteAddr addr i) b) addr (i + 1) bs

/-- What an abandoned write leaves: each byte reached memory or did not (log 6). -/
def Memory.landFrom (k : Nat) (m : Memory) (addr : Word) : Nat → List Byte → Memory
  | _, [] => m
  | i, b :: bs =>
    Memory.landFrom k (if Config.abandonedLands k i then m.put (byteAddr addr i) b else m) addr (i + 1) bs

/-- A half-word, least significant byte first. -/
def le16 (v : Half) : List Byte := [v.extractLsb' 0 8, v.extractLsb' 8 8]

/-- A word, least significant byte first. -/
def le32 (v : Word) : List Byte :=
  [v.extractLsb' 0 8, v.extractLsb' 8 8, v.extractLsb' 16 8, v.extractLsb' 24 8]

/-- The 8-bit field at an offset of a read. -/
def field8 {n : Nat} (r : BitVec n) (offset : Nat) : Byte := r.extractLsb' (8 * offset) 8

/-- The 16-bit field at an offset of a read. -/
def field16 {n : Nat} (r : BitVec n) (offset : Nat) : Half := r.extractLsb' (8 * offset) 16

/-- The 32-bit field at an offset of a read. -/
def field32 {n : Nat} (r : BitVec n) (offset : Nat) : Word := r.extractLsb' (8 * offset) 32

/-- An address that is "64-aligned" and nonzero (spec/00_scope.md, "Sizes"). -/
def aligned64 (a : Word) : Bool := a != 0 && a.extractLsb' 0 6 == 0#6

end Sys2Proof.Machine
end

