-- ==== Sys2Proof/Machine/Flags.lean ====
section
/-! DEFINITION. Causes and the interrupt line (R167 to R169), the changed-since-snapshot flags of the counters (R20,
R108, R125, R131), note counts that saturate (R3), and the half-circle test of ticks (R43). -/

namespace Sys2Proof.Machine

open Sys2Proof

/-- The bits of CAUSE and ENABLE (section 11.1): ORDER 0 to FAULT 6. -/
def causeOrder : BitVec 7 := 0b0000001#7
def causePage : BitVec 7 := 0b0000010#7
def causeAlarm : BitVec 7 := 0b0000100#7
def causeLink : BitVec 7 := 0b0001000#7
def causeStray : BitVec 7 := 0b0010000#7
def causeStopped : BitVec 7 := 0b0100000#7
def causeFault : BitVec 7 := 0b1000000#7

/-- A block raises a cause: the bit is latched, whatever ENABLE holds (R167). -/
def State.raise (bit : BitVec 7) (s : State) : State := { s with cause := s.cause ||| bit }

/-- A block raises a cause if a condition holds. -/
def State.raiseIf (c : Bool) (bit : BitVec 7) (s : State) : State := if c then s.raise bit else s

/-- The interrupt line is asserted exactly when CAUSE AND ENABLE is non-zero (R169). -/
def State.interruptLine (s : State) : Bool := (s.cause &&& s.enable) != 0

/-- A note count rises by k and stays at 65,535 (R3). -/
def satAdd (c : Half) (k : Nat) : Half :=
  if c.toNat + k < 65536 then BitVec.ofNat 16 (c.toNat + k) else 0xFFFF#16

/-- The early run rises by one and stays at 15 (R3). -/
def earlyRunAfter (run : Nat) : Nat := if run < 15 then run + 1 else 15

/-- A counter of a stream changes, and its changed-since-snapshot flag is set (R20). -/
def Stream.tally (f : StreamCounters → StreamCounters) (st : Stream) : Stream :=
  { st with counters := f st.counters, changed := true }

/-- The device record's changed-since-snapshot flag is set (R108, R125, R131). -/
def State.markDevice (s : State) : State := { s with tally := { s.tally with deviceChanged := true } }

/-- A tick value has reached a due tick (R43). -/
def reached (t d : Word) : Bool := decide ((t - d).toNat < 2 ^ 31)

/-- A field in units of 1,000 ticks, in ticks (00_scope.md, "Tick arithmetic"). -/
def thousands (v : Half) : Word := BitVec.ofNat 32 (1000 * v.toNat)

/-- The minimum margin after a burst of a given margin was stored (R21, R34). -/
def Stream.noteMargin (margin : Word) (st : Stream) : Stream :=
  if margin.slt st.minMargin then { st with minMargin := margin, changed := true } else st

/-- ACTIVE and STOPPING: the states in which the part's blocks work and ticks are counted (R41, R175, R176). -/
def GlobalState.working : GlobalState → Bool
  | .active | .stopping _ => true
  | .idle | .starting | .faulted => false

end Sys2Proof.Machine
end

