-- ==== Sys2Proof/Machine/Formats.lean ====
section
/-! DEFINITION. The byte layouts the part writes (chapter 12) and the frame check of the links (R181). -/

namespace Sys2Proof.Machine

open Sys2Proof

/-! ### Numeric codes (section 12.3) -/

def linkCode : LinkId → Byte
  | .a => 0
  | .b => 1

def StreamState.code : StreamState → Byte
  | .closed => 0
  | .acquiring => 1
  | .running => 2
  | .stalled => 3
  | .cut => 4
  | .draining => 5

def LinkState.code : LinkState → Byte
  | .off => 0
  | .hunt => 1
  | .up => 2

def CloseReason.code : CloseReason → Byte
  | .full => 1
  | .age => 2
  | .flush => 3
  | .close => 4
  | .stop => 5

def RecordKind.code : RecordKind → Byte
  | .data => 1
  | .fill => 2

def ResultCode.code : ResultCode → Byte
  | .ok => 0
  | .nothing => 1
  | .overtaken => 2
  | .somePart => 3
  | .badCode => 16
  | .badField => 17
  | .notOpen => 18
  | .busy => 19
  | .noRoom => 20
  | .conflict => 21
  | .badState => 22
  | .stopped => 23

/-- The result codes that go with REFUSED (section 12.3). -/
def ResultCode.refuses : ResultCode → Bool
  | .ok | .nothing | .overtaken | .somePart => false
  | .badCode | .badField | .notOpen | .busy | .noRoom | .conflict | .badState | .stopped => true

/-- Order states (section 12.3). -/
def statePosted : Byte := 1
def stateTaken : Byte := 2
def stateDone : Byte := 3
def stateRefused : Byte := 4

/-- Page states (section 12.3). -/
def pageClosedWord : Word := 1
def pageReturnedWord : Word := 2

def boolBit (b : Bool) (i : Nat) : Byte := if b then 1#8 <<< i else 0#8

/-- The note flags at their bits of a flags byte: RESYNC 3, STALL 4, CUT 5. -/
def Notes.flags (n : Notes) : Byte := boolBit n.resync 3 ||| boolBit n.stall 4 ||| boolBit n.cut 5

/-! ### Records and pages -/

/-- A record of n samples occupies 20 + 2n bytes, rounded up to a multiple of 4 (R79). -/
def recordSize (n : Nat) : Nat := (20 + 2 * n + 3) / 4 * 4

/-- The bytes of a page of a size code (R1). -/
def pageBytes (code : Nat) : Nat := 1024 * 2 ^ code

/-- The sample words of a record (R79). -/
def QueueRecord.samples (buffers : Vector (List Half) 512) (r : QueueRecord) : List Half :=
  match r.content with
  | .buffer b => buffers[b]
  | .fillWord v => List.replicate r.count v
  | .empty => []

/-- The 20-byte record header. -/
def QueueRecord.header (r : QueueRecord) : List Byte :=
  [r.kind.code,
   boolBit r.mark 0 ||| boolBit r.test 1 ||| boolBit r.repeated 2 ||| r.notes.flags,
   BitVec.ofNat 8 r.count,
   match r.link with
   | some l => linkCode l
   | none => 0xFF#8]
  ++ le16 r.sequence ++ le16 r.notes.skipped ++ le16 r.notes.starved ++ le16 0
  ++ le32 r.releaseTick ++ le32 r.originTime

/-- The bytes of a record: header, samples, two zero bytes after an odd sample count (R79). -/
def QueueRecord.bytes (buffers : Vector (List Half) 512) (r : QueueRecord) : List Byte :=
  r.header ++ (r.samples buffers).flatMap le16 ++ (if r.count % 2 = 1 then le16 0 else [])

/-- Bytes 4 to 31 of a page header (R87). -/
def pageHeader (n : StreamId) (reason : CloseReason) (serial : Word) (p : Page) (closeTick : Word)
    (notes : Notes) : List Byte :=
  [BitVec.ofNat 8 n.val, reason.code, notes.flags, 0]
  ++ le32 serial ++ le16 (BitVec.ofNat 16 p.count) ++ le16 (BitVec.ofNat 16 p.used)
  ++ le16 p.firstSequence ++ le16 p.lastSequence ++ le32 p.openTick ++ le32 closeTick
  ++ le16 notes.skipped ++ le16 notes.starved

/-- The 16 bytes of a stray entry. -/
def Stray.bytes (e : Stray) : List Byte :=
  le16 e.tag ++ le16 e.sequence ++ [BitVec.ofNat 8 e.length, linkCode e.link] ++ le16 0 ++ le32 e.arrival ++ le32 0

/-! ### Tally records (R159, R160) -/

/-- Bytes 4 to 63 of a stream's tally record. -/
def streamTallyBody (st : Stream) (supplyCount : Nat) : List Byte :=
  [st.state.code, BitVec.ofNat 8 supplyCount] ++ le16 st.head
  ++ le32 st.counters.releasedData ++ le32 st.counters.fillRecords ++ le32 st.counters.skippedSequences
  ++ le32 st.counters.late ++ le32 st.counters.duplicate ++ le32 st.counters.early ++ le32 st.counters.unsynced
  ++ le32 st.counters.resyncs ++ le32 st.counters.stalls ++ le32 st.counters.cuts ++ le32 st.counters.starved
  ++ le32 st.counters.flushed ++ le32 st.counters.pagesClosed ++ le32 st.minMargin

/-- The low 16 bits of a counter (R160). -/
def low16 (v : Word) : List Byte := le16 (v.extractLsb' 0 16)

/-- Bytes 4 to 43 of the device record: the link states and the 32-bit counters. -/
def deviceTallyWords (a b : Receiver) (c : AcceptanceCounters) (w : Walker) : List Byte :=
  [a.state.code, b.state.code] ++ le16 0
  ++ le32 a.counters.good ++ le32 b.counters.good ++ le32 c.filteredA ++ le32 c.filteredB
  ++ le32 c.strays ++ le32 c.closedStream ++ le32 c.wrongLink ++ le32 w.ordersDone ++ le32 w.ordersRefused

/-- Bytes 44 to 63 of the device record: the counters modulo 65,536. -/
def deviceTallyHalves (a b : LinkCounters) (c : AcceptanceCounters) : List Byte :=
  low16 a.checkErrors ++ low16 b.checkErrors ++ low16 a.formatErrors ++ low16 b.formatErrors
  ++ low16 a.overruns ++ low16 b.overruns ++ low16 a.linkOffDrops ++ low16 b.linkOffDrops
  ++ low16 c.strayOverflows ++ low16 c.testDiscards

/-- Bytes 4 to 63 of the device record. -/
def deviceTallyBody (a b : Receiver) (c : AcceptanceCounters) (w : Walker) : List Byte :=
  deviceTallyWords a b c w ++ deviceTallyHalves a.counters b.counters c

/-! ### The frame check (R181) -/

/-- One data bit into the check register. -/
def crcBit (reg : Word) (bit : Bool) : Word :=
  if reg.getLsbD 31 != bit then (reg <<< 1) ^^^ 0x04C11DB7#32 else reg <<< 1

/-- One byte into the check register, most significant bit first. -/
def crcByte (reg : Word) (b : Byte) : Word :=
  [7, 6, 5, 4, 3, 2, 1, 0].foldl (fun r i => crcBit r (b.getLsbD i)) reg

/-- The check register after some bytes, from the value a START sets. -/
def crcRegister (bytes : List Byte) : Word := bytes.foldl crcByte 0xFFFFFFFF#32

/-- The computed check of some bytes: the complement of the register. -/
def frameCheck (bytes : List Byte) : Word := ~~~ (crcRegister bytes)

/-! ### Fields of a frame, sent most significant byte first (section 12.1) -/

/-- Byte i of a frame. -/
def frameByte (bytes : List Byte) (i : Nat) : Byte := bytes.getD i 0

/-- The 16-bit field of a frame at byte i. -/
def frameHalf (bytes : List Byte) (i : Nat) : Half := frameByte bytes i ++ frameByte bytes (i + 1)

/-- The 32-bit field of a frame at byte i. -/
def frameWord (bytes : List Byte) (i : Nat) : Word := frameHalf bytes i ++ frameHalf bytes (i + 2)

/-- The first n sample words of a frame. -/
def frameSamples (bytes : List Byte) (n : Nat) : List Half :=
  (List.range n).map (fun i => frameHalf bytes (10 + 2 * i))

/-- The burst of a frame whose checks have passed (R106). -/
def frameOf (bytes : List Byte) : Frame :=
  { tag := frameHalf bytes 0, sequence := frameHalf bytes 2, originTime := frameWord bytes 4,
    mark := (frameByte bytes 9).getLsbD 0, test := (frameByte bytes 9).getLsbD 1,
    samples := frameSamples bytes (frameByte bytes 8).toNat }

/-! ### Transactions -/

/-- Cuts a list into pieces of 64, the last holding the rest (R83). -/
def pieces (fuel : Nat) (l : List Byte) : List (List Byte) :=
  match fuel with
  | 0 => [l]
  | fuel + 1 => if l.length ≤ 64 then [l] else l.take 64 :: pieces fuel (l.drop 64)

/-- The transactions that write pieces one after another from an address, the last one marked. -/
def recordTxs (addr : Word) : List (List Byte) → List Tx
  | [] => []
  | p :: ps =>
    { addr := addr, body := .write p, role := .recordPart ps.isEmpty }
      :: recordTxs (addr + BitVec.ofNat 32 p.length) ps

/-- The transactions of a page close: bytes 4 to 31, then the state word CLOSED (R87). -/
def closeTxs (addr : Word) (header : List Byte) : List Tx :=
  [{ addr := addr + 4, body := .write header, role := .pageHeader },
   { addr := addr, body := .write (le32 pageClosedWord), role := .pageState }]

/-- The transactions of a return: the state word RETURNED into each page (R94). -/
def returnTxs : List Word → List Tx
  | [] => []
  | a :: rest =>
    { addr := a, body := .write (le32 pageReturnedWord), role := .pageReturn rest.isEmpty } :: returnTxs rest

/-- The transactions of a READ STRAYS: entry i at the buffer address plus 16 × i (R123). -/
def strayTxs (addr : Word) : List Stray → List Tx
  | [] => []
  | e :: rest =>
    { addr := addr, body := .write e.bytes, role := .strayEntry rest.isEmpty } :: strayTxs (addr + 16) rest

/-- The three transactions of a tally write: odd serial, body, even serial (R161). -/
def tallyTxs (addr serial : Word) (body : List Byte) : List Tx :=
  [{ addr := addr, body := .write (le32 (serial + 1)), role := .tallyOdd },
   { addr := addr + 4, body := .write body, role := .tallyBody },
   { addr := addr, body := .write (le32 (serial + 2)), role := .tallyEven }]

/-- The transaction an outcome write issues next: the result at offset 4, then the word at offset 0 (R131). -/
def OutcomeWrite.tx (o : OutcomeWrite) : Tx :=
  let stateWrite (v : Byte) (final : Bool) : Tx :=
    { addr := o.ref.addr, body := .write [v, o.ref.code, o.ref.flags, o.ref.spare], role := .outcomeState final }
  match o.kind, o.resultDone with
  | .taken _, _ => stateWrite stateTaken false
  | .final r _, false =>
    { addr := o.ref.addr + 4, body := .write ([r.code.code, 0, 0, 0] ++ le32 r.value), role := .outcomeResult }
  | .final r _, true => stateWrite (if r.code.refuses then stateRefused else stateDone) true

end Sys2Proof.Machine
end

