-- ==== Sys2Proof/Machine/Operands.lean ====
section
/-! DEFINITION. The fields of the formats the part reads (R182): the root record and the order record, with the code and
field checks of an order (R142, R143). Field numbers are those of chapter 9. -/

namespace Sys2Proof.Machine

open Sys2Proof

/-! ### The root record (chapter 12, "Root record") -/

/-- The four checks of STARTING, in order; each failure has the same fault (R173). -/
def rootValid (r : BitVec 256) : Bool :=
  field32 r 0 == Config.rootSignature && field16 r 4 == 1#16
    && decide (1 ≤ (field16 r 6).toNat ∧ (field16 r 6).toNat ≤ 1024) && aligned64 (field32 r 12)

/-- The tick divider of a root record. -/
def rootDivider (r : BitVec 256) : Nat := (field16 r 6).toNat

/-- The tally array address of a root record. -/
def rootTally (r : BitVec 256) : Word := field32 r 12

/-- The sweep interval of a root record. -/
def rootSweep (r : BitVec 256) : Half := field16 r 16

/-- The tally interval of a root record. -/
def rootTallyInterval (r : BitVec 256) : Half := field16 r 18

/-! ### The order record -/

/-- What the walker remembers of a fetched record (R131). -/
def recordRef (addr : Word) (r : BitVec 512) : RecordRef :=
  { addr := addr, code := field8 r 1, flags := field8 r 2, spare := field8 r 3 }

/-- The NOTIFY flag: bit 0 of the flags byte. -/
def RecordRef.notify (ref : RecordRef) : Bool := ref.flags.getLsbD 0

/-- The address of a record's link word. -/
def RecordRef.linkAddr (ref : RecordRef) : Word := ref.addr + 12

/-- The first field, in the order listed, that is out of range (R143). -/
def firstBad : List (Nat × Bool) → Option Nat
  | [] => none
  | (number, ok) :: rest => if ok then firstBad rest else some number

/-- A checked order, or the refusal of the first check that fails (R141). -/
inductive Checked where
  | refuse (result : Result)
  | accept (order : Order)
deriving DecidableEq, Repr

/-- The field check: BAD FIELD with the number of the first bad field, else the order (R143). -/
def checkFields (fields : List (Nat × Bool)) (order : Order) : Checked :=
  match firstBad fields with
  | some n => .refuse { code := .badField, value := BitVec.ofNat 32 n }
  | none => .accept order

/-- The number in an 8-bit field. -/
def num8 (r : BitVec 512) (offset : Nat) : Nat := (field8 r offset).toNat

/-- A stream field, in range when below 64. -/
def streamOk (r : BitVec 512) (offset : Nat) : Bool := decide (num8 r offset < 64)

/-- A number already checked to be below 64. -/
def toStream (n : Nat) : StreamId := Fin.ofNat 64 n

/-- The fill policy of a code 0, 1 or 2. -/
def fillPolicyOf (code : Nat) : FillPolicy :=
  match code with
  | 0 => .constant
  | 1 => .repeatStore
  | _ => .markOnly

/-- The options byte: MARK SYNC, ACCEPT TEST, NOTIFY PAGES, NOTIFY ALARMS at bits 0 to 3. -/
def optionsOf (b : Byte) : Options :=
  { markSync := b.getLsbD 0, acceptTest := b.getLsbD 1, notifyPages := b.getLsbD 2, notifyAlarms := b.getLsbD 3 }

/-- The configuration in an OPEN STREAM record. -/
def openConfig (r : BitVec 512) : StreamConfig :=
  { w := num8 r 17, q := num8 r 18, l := num8 r 19, p := field32 r 28, d := field32 r 32, sizeCode := num8 r 20,
    fillPolicy := fillPolicyOf (num8 r 21), fillWord := field16 r 22, f := num8 r 24, k := num8 r 25,
    silence := field16 r 36, ageLimit := field16 r 38, options := optionsOf (field8 r 26) }

/-- The fields of OPEN STREAM that can fail, in rising number (R143). -/
def openFields (r : BitVec 512) : List (Nat × Bool) :=
  let p := (field32 r 28).toNat
  let d := (field32 r 32).toNat
  [(1, streamOk r 16),
   (2, decide (2 ≤ num8 r 17 ∧ num8 r 17 ≤ 16)),
   (3, decide (1 ≤ num8 r 18 ∧ num8 r 18 ≤ 8)),
   (4, decide (1 ≤ num8 r 19 ∧ num8 r 19 ≤ 64)),
   (5, decide (num8 r 20 ≤ 3)),
   (6, decide (num8 r 21 ≤ 2)),
   (8, decide (num8 r 24 ≤ 15)),
   (9, decide (num8 r 25 ≤ 15)),
   (10, decide (1 ≤ p ∧ p ≤ 1048575)),
   (11, decide (p ≤ d ∧ d ≤ num8 r 17 * p)),
   (14, decide (num8 r 26 < 16))]

/-- Bit i of ALTER STREAM's change mask: it selects field 3 + i. -/
def selected (r : BitVec 512) (i : Nat) : Bool := (field8 r 17).getLsbD i

/-- The fields an ALTER STREAM record selects. -/
def alterationOf (r : BitVec 512) : Alteration :=
  { fillPolicy := if selected r 0 then some (fillPolicyOf (num8 r 18)) else none,
    fillWord := if selected r 1 then some (field16 r 20) else none,
    f := if selected r 2 then some (num8 r 19) else none,
    k := if selected r 3 then some (num8 r 22) else none,
    silence := if selected r 4 then some (field16 r 24) else none,
    ageLimit := if selected r 5 then some (field16 r 26) else none,
    options := if selected r 6 then some (optionsOf (field8 r 23)) else none }

/-- The fields of ALTER STREAM that can fail; one whose mask bit is clear is not tested (R148). -/
def alterFields (r : BitVec 512) : List (Nat × Bool) :=
  [(1, streamOk r 16),
   (2, !(selected r 7)),
   (3, !(selected r 0) || decide (num8 r 18 ≤ 2)),
   (5, !(selected r 2) || decide (num8 r 19 ≤ 15)),
   (6, !(selected r 3) || decide (num8 r 22 ≤ 15)),
   (9, !(selected r 6) || decide (num8 r 23 < 16))]

/-- The addresses of an ATTACH PAGES record: as many as its count. -/
def attachAddrs (r : BitVec 512) : List Word :=
  (List.range (min (num8 r 17) 8)).map (fun i => field32 r (20 + 4 * i))

/-- The fields of ATTACH PAGES: stream, count, then address i as field 2 + i, for i from 1 to the count (R149). -/
def attachFields (r : BitVec 512) : List (Nat × Bool) :=
  [(1, streamOk r 16), (2, decide (1 ≤ num8 r 17 ∧ num8 r 17 ≤ 8))]
  ++ (List.range (min (num8 r 17) 8)).map (fun i => (3 + i, aligned64 (field32 r (20 + 4 * i))))

/-- A flag field that takes 0 or 1. -/
def flagOk (r : BitVec 512) (offset : Nat) : Bool := decide (num8 r offset ≤ 1)

/-- The target of a WRITE TALLY: 0 to 64 one record, 255 all (R154). -/
def targetOf (n : Nat) : TallyTarget := if n = 255 then .all else .one (Fin.ofNat 65 n)

/-- The code check, then the field check of the order's table (R142, R143). -/
def checkOrder (r : BitVec 512) : Checked :=
  match num8 r 1 with
  | 1 => checkFields (openFields r) (.openStream (toStream (num8 r 16)) (openConfig r))
  | 2 => checkFields [(1, streamOk r 16), (2, flagOk r 17)]
      (.closeStream (toStream (num8 r 16)) ((field8 r 17).getLsbD 0))
  | 3 => checkFields (alterFields r) (.alterStream (toStream (num8 r 16)) (alterationOf r))
  | 4 => checkFields (attachFields r) (.attachPages (toStream (num8 r 16)) (attachAddrs r))
  | 5 => checkFields [(1, streamOk r 16)] (.flushPage (toStream (num8 r 16)))
  | 6 => checkFields
      [(1, streamOk r 16), (3, decide (1 ≤ num8 r 17 ∧ num8 r 17 ≤ 3)), (4, streamOk r 20)]
      (.setRoute (toStream (num8 r 16))
        { tag := field16 r 18, mask := (field8 r 17).extractLsb' 0 2, stream := toStream (num8 r 20) })
  | 7 => checkFields [(1, streamOk r 16)] (.clearRoute (toStream (num8 r 16)))
  | 8 => checkFields [(1, flagOk r 16), (2, flagOk r 17)]
      (.setLink (if num8 r 16 = 0 then .a else .b) ((field8 r 17).getLsbD 0) (field16 r 18) (field16 r 20))
  | 9 => checkFields
      [(1, decide (num8 r 16 ≤ 64 ∨ num8 r 16 = 255)), (2, flagOk r 17)]
      (.writeTally (targetOf (num8 r 16)) ((field8 r 17).getLsbD 0))
  | 10 => checkFields [(1, aligned64 (field32 r 16))] (.readStrays (field32 r 16))
  | 11 => .accept .barrier
  | code => .refuse { code := .badCode, value := BitVec.ofNat 32 code }

end Sys2Proof.Machine
end

