-- ==== Sys2Proof/Machine/Ops.lean ====
section
/-! DEFINITION. The shared operations on the state: access to streams, pages and receivers, the Deadline Queue, the
Burst Store, the tally-pending set, flushes, the beginning of a page close, and the end of a memory transaction. -/

namespace Sys2Proof.Machine

open Sys2Proof

/-! ### One home for each part of the state -/

def State.stream (s : State) (n : StreamId) : Stream := s.streams[n]

def State.setStream (s : State) (n : StreamId) (st : Stream) : State :=
  { s with streams := s.streams.set n.val st n.isLt }

def State.modStream (n : StreamId) (f : Stream → Stream) (s : State) : State := s.setStream n (f (s.stream n))

def State.page (s : State) (n : StreamId) : PageState := s.pages[n]

def State.setPage (s : State) (n : StreamId) (p : PageState) : State :=
  { s with pages := s.pages.set n.val p n.isLt }

def State.modPage (n : StreamId) (f : PageState → PageState) (s : State) : State := s.setPage n (f (s.page n))

def State.rx (s : State) (l : LinkId) : Receiver :=
  match l with
  | .a => s.rxA
  | .b => s.rxB

def State.setRx (s : State) (l : LinkId) (r : Receiver) : State :=
  match l with
  | .a => { s with rxA := r }
  | .b => { s with rxB := r }

def State.setWalker (s : State) (w : Walker) : State := { s with walker := w }

/-! ### The Deadline Queue (chapter 3) -/

/-- The entry is the one of a stream and kind. -/
def Deadline.isFor (n : StreamId) (k : DeadlineKind) (e : Deadline) : Bool := e.stream == n && e.kind == k

/-- The due tick of a stream's entry of a kind, if the queue holds one. -/
def dueOf : List Deadline → StreamId → DeadlineKind → Option Word
  | [], _, _ => none
  | e :: q, n, k => if e.isFor n k then some e.due else dueOf q n k

/-- A cancel removes the entry; with none it has no effect (R46). -/
def removeDeadline (q : List Deadline) (n : StreamId) (k : DeadlineKind) : List Deadline :=
  q.filter (fun e => !e.isFor n k)

/-- How far ahead of the counter an entry lies, negative once it is due (R43, R44). -/
def Deadline.ahead (tick : Word) (e : Deadline) : Int := (e.due - tick).toInt

/-- Puts an entry into its place, nearest first, after the entries with the same due tick (R44, log 19). -/
def insertDeadline (tick : Word) (e : Deadline) : List Deadline → List Deadline
  | [] => [e]
  | x :: q => if e.ahead tick < x.ahead tick then e :: x :: q else x :: insertDeadline tick e q

/-- An arming ends with exactly one entry for the stream and kind (R45). -/
def armDeadlineIn (tick : Word) (q : List Deadline) (n : StreamId) (k : DeadlineKind) (due : Word) : List Deadline :=
  insertDeadline tick { stream := n, kind := k, due := due } (removeDeadline q n k)

def State.setDeadlines (s : State) (q : List Deadline) : State := { s with time := { s.time with deadlines := q } }

/-- The due tick of a stream's entry. -/
def State.deadline (s : State) (n : StreamId) (k : DeadlineKind) : Option Word := dueOf s.time.deadlines n k

/-- The owner arms an entry (R45). -/
def State.arm (n : StreamId) (k : DeadlineKind) (due : Word) (s : State) : State :=
  s.setDeadlines (armDeadlineIn s.time.tick s.time.deadlines n k due)

/-- The owner cancels an entry (R46). -/
def State.cancel (n : StreamId) (k : DeadlineKind) (s : State) : State :=
  s.setDeadlines (removeDeadline s.time.deadlines n k)

/-- The due tick of an entry that can expire now: the part counts ticks and the tick counter has reached it
(R47, R51). -/
def State.expired (s : State) (n : StreamId) (k : DeadlineKind) : Option Word :=
  if s.global.working then
    match s.deadline n k with
    | some due => if reached s.time.tick due then some due else none
    | none => none
  else none

/-! ### The Burst Store (R16 to R18) -/

/-- A claim takes a buffer from the pool and fills it; none when the pool is empty (R16, R18, log 8). -/
def State.claim (samples : List Half) (s : State) : Option (BufferId × State) :=
  match s.store.pool with
  | [] => none
  | b :: rest =>
    some (b, { s with store := { s.store with buffers := s.store.buffers.set b.val samples b.isLt, pool := rest } })

/-- Buffers go back to the pool; their contents are not cleared (R16). -/
def State.freeBuffers (bs : List BufferId) (s : State) : State :=
  { s with store := { s.store with pool := bs ++ s.store.pool } }

/-- The buffer a record holds, if it holds one (R4). -/
def RecordContent.buffers : RecordContent → List BufferId
  | .buffer b => [b]
  | .fillWord _ | .empty => []

/-! ### The tally-pending set (R163) -/

/-- The index of a stream's tally record (R158). -/
def streamIndex (n : StreamId) : Fin 65 := n.castSucc

/-- The index of the device record (R158). -/
def deviceIndex : Fin 65 := 64

/-- A record joins the set with its marks clear; a member keeps its marks (R163). -/
def joined (m : Option Marks) : Option Marks :=
  match m with
  | some x => some x
  | none => some { zero := false, order := false }

def State.join (i : Fin 65) (s : State) : State :=
  { s with tally := { s.tally with pending := s.tally.pending.set i.val (joined s.tally.pending[i]) i.isLt } }

/-- A record's changed-since-snapshot flag. -/
def State.recordChanged (s : State) (i : Fin 65) : Bool :=
  if h : i.val < 64 then (s.stream ⟨i.val, h⟩).changed else s.tally.deviceChanged

/-- Every record whose changed-since-snapshot flag is set joins the set (R53, R166). -/
def State.joinChanged (s : State) : State :=
  { s with tally := { s.tally with
      pending := Vector.ofFn (fun i => if s.recordChanged i then joined s.tally.pending[i] else s.tally.pending[i]) } }

/-- A change of a stream's state makes its tally record pending and sets its changed-since-snapshot flag; setting the
state it has is no change (R5, R162). -/
def State.changeState (n : StreamId) (target : StreamState) (s : State) : State :=
  if (s.stream n).state = target then s
  else (s.modStream n (fun st => { st with state := target, changed := true })).join (streamIndex n)

/-- A stream's page supply is replaced. The stream's tally record carries its length: a change of it sets the
changed-since-snapshot flag (R77, R159, R162). -/
def State.setSupply (n : StreamId) (supply : List Word) (s : State) : State :=
  let changes := (s.page n).supply.length != supply.length
  (s.modPage n (fun pg => { pg with supply := supply })).modStream n (fun st =>
    { st with changed := st.changed || changes })

/-! ### Windows and queues -/

/-- The bursts a window holds. -/
def heldBursts (window : List (Option Burst)) : List Burst := window.filterMap id

/-- The window holds no burst. -/
def windowEmpty (window : List (Option Burst)) : Bool := window.all (fun slot => slot.isNone)

/-- The stream has a record write in flight: the lane is on a record operation of the stream (R4, R80). -/
def State.recordInFlight (s : State) (n : StreamId) : Bool :=
  match s.lane.op with
  | some (.record m _) => m == n
  | some (.pageClose _) | some (.giveBack _) | none => false

/-- The stream of a lane operation. -/
def LaneOp.stream : LaneOp → StreamId
  | .record n _ => n
  | .pageClose n => n
  | .giveBack n => n

/-- The lane has an operation of the stream in flight. -/
def State.laneBusyWith (s : State) (n : StreamId) : Bool :=
  match s.lane.op with
  | some op => op.stream == n
  | none => false

/-- The flushed counter rises; a flush of nothing counts nothing (R8). -/
def Stream.countFlushed (k : Nat) (st : Stream) : Stream :=
  if k = 0 then st
  else st.tally (fun c => { c with flushed := c.flushed + BitVec.ofNat 32 k })

/-- Window flush (R8). -/
def State.flushWindow (n : StreamId) (s : State) : State :=
  let gone := heldBursts (s.stream n).window
  (s.modStream n (fun st =>
      ({ st with window := st.window.map (fun _ => none) } : Stream).countFlushed gone.length)).freeBuffers
    (gone.map (fun b => b.buffer))

/-- Queue flush: a record in flight stays (R8). -/
def State.flushQueue (n : StreamId) (s : State) : State :=
  let stay := if s.recordInFlight n then 1 else 0
  let gone := (s.stream n).queue.drop stay
  (s.modStream n (fun st => ({ st with queue := st.queue.take stay } : Stream).countFlushed gone.length)).freeBuffers
    (gone.flatMap (fun r => r.content.buffers))

/-! ### Pages -/

/-- A close of the current page begins: it becomes the closing page and its AGE entry is cancelled (R86). -/
def State.beginPageClose (n : StreamId) (reason : CloseReason) (flushWaits issued : Bool) (s : State) : State :=
  match (s.page n).current with
  | some p =>
    (s.modPage n (fun pg => { pg with
        current := none,
        closingPage := some { page := p, reason := reason, flushWaits := flushWaits, issued := issued } })).cancel n .age
  | none => s

/-! ### The end of a memory transaction -/

/-- The transaction in flight, while the part works (R179). -/
def State.inFlight (s : State) : Option Tx := if s.global.working then s.port.flight.map (fun f => f.tx) else none

/-- A good response: a write's bytes are in memory, and the port is free (R179). -/
def State.land (tx : Tx) (s : State) : State :=
  { s with
    port := { s.port with flight := none }
    sysMem :=
      match tx.body with
      | .write data => Memory.writeFrom s.sysMem tx.addr 0 data
      | .read _ => s.sysMem }

/-- The bytes a transaction writes, none for a read. -/
def TxBody.data : TxBody → List Byte
  | .read _ => []
  | .write d => d

/-- Whether an abandoned transaction may have reached memory: a read writes nothing, and of the write of a final state
R139 says that the record's state stands as before (log 6). A page header is not excepted, trailing notes included (R75
against R87 and R95: the model's choice, log 30). -/
def Tx.mayLand (tx : Tx) : Bool :=
  match tx.body with
  | .read _ => false
  | .write _ => tx.role != .outcomeState true

/-- A fault or a reset abandons the transaction in flight: a write may or may not have reached memory (R178, R139,
log 6; a page header with its trailing notes too, log 30). -/
def State.abandonFlight (s : State) : State :=
  match s.port.flight with
  | none => s
  | some f =>
    let s1 : State := { s with port := { s.port with flight := none } }
    if f.tx.mayLand then
      { s1 with
        sysMem := Memory.landFrom s.freeCount s.sysMem f.tx.addr 0 f.tx.body.data, freeCount := s.freeCount + 1 }
    else s1

/-! ### Answers to the Order Walker -/

def State.setActivity (a : Activity) (s : State) : State := { s with walker := { s.walker with activity := a } }

/-- An order's final result is answered; its outcome is to be written (R130). -/
def State.answer (ref : RecordRef) (code : ResultCode) (value : Word) (s : State) : State :=
  s.setActivity (.finish ref { code := code, value := value })

/-- A nudge reaches the walker (R133). -/
def State.nudge (s : State) : State :=
  match s.global with
  | .active =>
    match s.walker.state with
    | .parked => { s with walker := { s.walker with state := .walking, activity := .linkRead } }
    | .walking | .barrierWait => { s with walker := { s.walker with sweepPending := true } }
  | .stopping _ | .idle | .starting | .faulted => s

/-- The TAKEN write of an outcome-list entry's record has completed (R136). -/
def Walker.takenWritten (w : Walker) (e : OutcomeEntry) : Bool :=
  match e.source with
  | .drain n => w.held.any (fun h => h.stream == n && h.settled && h.takenWritten)
  | .barrier =>
    match w.heldBarrier with
    | some b => b.takenWritten
    | none => false

/-- The outcome-list entry whose writes can begin: the oldest, once its record's TAKEN write has completed; an entry that
waits holds back those behind it (R136). -/
def Walker.readyOutcome (w : Walker) : Option OutcomeEntry :=
  match w.outcomes with
  | e :: _ => if w.takenWritten e then some e else none
  | [] => none

/-! ### Round-robin (R82, R164) -/

/-- The numbers after the last one served, wrapping around, the last one served at the end. -/
def rotation (n : Nat) (last : Fin n) : List (Fin n) :=
  (List.finRange n).filter (fun i => last < i) ++ (List.finRange n).filter (fun i => i ≤ last)

end Sys2Proof.Machine
end

