-- ==== Sys2Proof/Machine/Closing.lean ====
section
/-! DEFINITION. The closing sequence of a stream (R10 to R14, R93, R94) and the reports of its end to the Order Walker
(R135), the way a link goes OFF (R102), and the raise of the LINK cause with a link's change of state (R109). -/

namespace Sys2Proof.Machine

open Sys2Proof

/-! ### The completion report (R10, R14, R135) -/

/-- The record of the immediate CLOSE STREAM of a stream that is the order in progress. -/
def Walker.closeWaiting (w : Walker) (n : StreamId) : Option RecordRef :=
  match w.activity with
  | .waitClose ref m => if m = n then some ref else none
  | _ => none

/-- The held drain of a stream that is not settled. -/
def HeldDrain.openFor (n : StreamId) (h : HeldDrain) : Bool := h.stream == n && !h.settled

/-- A held drain's final outcome goes on the outcome list, and the drain is settled (R135); with no unsettled drain of
the stream nothing is written. -/
def Walker.completeDrain (n : StreamId) (result : Result) (w : Walker) : Walker :=
  match w.held.find? (HeldDrain.openFor n) with
  | none => w
  | some h =>
    { w with
      outcomes := w.outcomes ++ [{ ref := h.ref, result := result, source := .drain n }]
      held := w.held.map (fun x => if x.openFor n then { x with settled := true } else x) }

/-- The Stream Engine reports a close complete with its returned count: the held drain first, OVERTAKEN if an immediate
close is in progress (R14), then that immediate close (R11). -/
def Walker.closeReported (n : StreamId) (count : Nat) (w : Walker) : Walker :=
  let value := BitVec.ofNat 32 count
  match w.closeWaiting n with
  | some ref =>
    { w.completeDrain n { code := .overtaken, value := 0 } with
      activity := .finish ref { code := .ok, value := value } }
  | none => w.completeDrain n { code := .ok, value := value }

/-! ### The closing sequence (R12) -/

/-- Step 4: the reservation and the notes go, the stream is CLOSED, and the close is reported. -/
def State.closeStep4 (n : StreamId) (count : Nat) (s : State) : State :=
  let c := (s.stream n).config
  let s1 := { s with store := { s.store with reserved := s.store.reserved - (c.w + c.q) } }
  let s2 := s1.modStream n (fun st => { st with notes := .clear, closing := none })
  let s3 := s2.changeState n .closed
  s3.setWalker (s3.walker.closeReported n count)

/-- Step 3: the return of the supply; with an empty supply there is none (R94). -/
def State.closeStep3 (n : StreamId) (s : State) : State :=
  if (s.page n).supply.isEmpty then s.closeStep4 n 0
  else s.modStream n (fun st => { st with closing := st.closing.map (fun c => { c with phase := .returnDue }) })

/-- Step 2: the last page is closed with the sequence's reason; with none the notes are discarded (R93, R69). -/
def State.closeStep2 (n : StreamId) (reason : CloseReason) (s : State) : State :=
  let waiting := fun st : Stream => { st with closing := st.closing.map (fun c => { c with phase := .waitClose }) }
  match (s.page n).closingPage, (s.page n).current with
  | some p, _ => (s.modPage n (fun pg => { pg with closingPage := some { p with reason := reason } })).modStream n waiting
  | none, some _ => (s.beginPageClose n reason false false).modStream n waiting
  | none, none => (s.modStream n (fun st => { st with notes := .clear })).closeStep3 n

/-- The closing sequence begins: step 1 waits for a lane operation of the stream (R12). -/
def State.beginClosing (n : StreamId) (reason : CloseReason) (s : State) : State :=
  let s1 := s.modStream n (fun st =>
    { st with closing := some { reason := reason, phase := .waitLane, returned := 0 } })
  if s1.laneBusyWith n then s1 else s1.closeStep2 n reason

/-- A DRAINING stream whose closing flag is clear begins its closing sequence when its window and queue are empty (R10). -/
def State.testDrained (n : StreamId) (s : State) : State :=
  let st := s.stream n
  if st.state = .draining ∧ st.closing = none ∧ windowEmpty st.window = true ∧ st.queue = []
      ∧ s.recordInFlight n = false then
    s.beginClosing n .close
  else s

/-- A lane operation the closing sequence waits for at step 1 has completed: it goes on with step 2 (R12). -/
def State.laneDone (n : StreamId) (s : State) : State :=
  match (s.stream n).closing with
  | some c =>
    match c.phase with
    | .waitLane => s.closeStep2 n c.reason
    | .waitClose | .returnDue | .returning => s
  | none => s

/-- An immediate close: flushes, cancels, DRAINING, closing sequence (R11; with reason STOP R15). -/
def State.closeNow (n : StreamId) (reason : CloseReason) (s : State) : State :=
  (((((s.flushWindow n).flushQueue n).cancel n .head).cancel n .silence).changeState n .draining).beginClosing n reason

/-! ### Links going OFF -/

/-- A link's state changes: the device record's changed flag is set (R108). -/
def State.setLinkState (l : LinkId) (state : LinkState) (s : State) : State :=
  (s.setRx l { s.rx l with state := state }).markDevice

/-- A receiver's counters change (R108). -/
def State.countLink (l : LinkId) (f : LinkCounters → LinkCounters) (s : State) : State :=
  (s.setRx l { s.rx l with counters := f (s.rx l).counters }).markDevice

/-- No frame is being assembled (R103); the running check is log 14. -/
def Receiver.outside (r : Receiver) : Receiver :=
  { r with assembly := .outside, bytes := [], check := 0xFFFFFFFF#32 }

def Staging.isFull : Staging → Bool
  | .full _ => true
  | .free | .held _ => false

/-- A FULL staging buffer is emptied (R102). -/
def Staging.emptied : Staging → Staging
  | .full _ => .free
  | .free => .free
  | .held f => .held f

/-- The link-off drops of a disable: the partial frame, and each FULL staging buffer (R102). -/
def Receiver.offDrops (r : Receiver) : Nat :=
  (if r.assembly = .inFrame then 1 else 0) + (r.staging.toList.filter Staging.isFull).length

/-- The receiver after it went OFF (R102). -/
def Receiver.turnedOff (r : Receiver) : Receiver :=
  { r.outside with
    state := .off, idleRun := 0, violationRun := 0, lossCount := 0, symbolTaken := false,
    staging := r.staging.map Staging.emptied, order := [],
    counters := { r.counters with linkOffDrops := r.counters.linkOffDrops + BitVec.ofNat 32 r.offDrops } }

/-- A link in HUNT or UP goes OFF and raises LINK; one that is OFF is unchanged (R102, R110). -/
def State.linkOff (l : LinkId) (s : State) : State :=
  match (s.rx l).state with
  | .off => s
  | .hunt | .up => ((s.setRx l (s.rx l).turnedOff).markDevice).raise causeLink

end Sys2Proof.Machine
end

