-- ==== Sys2Proof/Machine/Globals.lean ====
section
/-! DEFINITION. The global state machine: entry to FAULTED (R176), to IDLE (R175, R177), to STARTING (R173), to
ACTIVE (R174), the stop sequence (R175), and the two resets (R178). -/

namespace Sys2Proof.Machine

open Sys2Proof

/-- Entry to FAULTED: the reason and address, the transaction abandoned, FAULT raised; every block keeps its state
(R176). -/
def State.enterFaulted (reason : FaultReason) (addr : Word) (s : State) : State :=
  ({ s.abandonFlight with global := .faulted, faultReason := reason, faultAddr := addr }).raise causeFault

/-- Every block at the values its chapter gives for the resets and for entry to IDLE (R22, R54, R96, R111, R125, R140,
R166, R179). The buffers' contents are not cleared (R16, log 8). -/
def State.resetBlocks (s : State) : State :=
  { s with
    time := .reset, port := .reset, streams := Vector.replicate 64 .reset,
    store := { s.store with pool := BurstStore.fullPool, reserved := 0 },
    pages := Vector.replicate 64 .reset, lane := .reset, rxA := .reset, rxB := .reset, acceptance := .reset,
    walker := .reset, tally := .reset }

/-- Entry to IDLE: internal state at its reset values, the registers kept (R175, R177). -/
def State.enterIdle (s : State) : State := { s.resetBlocks with global := .idle }

/-- Entry to STARTING: the fault registers are cleared and ROOT is tested; a usable ROOT is read in one 32-byte
transaction (R173, log 9). -/
def State.enterStarting (s : State) : State :=
  let s1 := { s with global := .starting, faultReason := .none, faultAddr := 0 }
  if aligned64 s.root then
    { s1 with port := { s1.port with
        flight := some { tx := { addr := s.root, body := .read 32, role := .rootRead }, periods := 0 } } }
  else s1.enterFaulted .root s.root

/-! ### The stop sequence (R175)

Each step begins when the one before is complete; a step that finds its work done is passed in the same event. -/

def Activity.isIdle : Activity → Bool
  | .idle => true
  | .linkRead | .fetch _ | .request _ _ | .waitClose _ _ | .waitFlush _ _ | .waitTally _ _ | .strays _ _ _
  | .finish _ _ | .taken _ _ => false

/-- A link word read or a fetch of the walker was issued: it is in flight, or it is what the walker presents to the
Memory Port, no outcome write going first (R128, R129, R136, log 24). -/
def State.readIssued (s : State) : Bool :=
  (match s.port.flight with
    | some f => f.tx.role == .linkRead || f.tx.role == .orderFetch
    | none => false)
  || (s.walker.writing.isNone && s.walker.readyOutcome.isNone)

/-- At entry to STOPPING a link word read or a fetch that was not issued is dropped: only an order whose fetch was issued
is in progress, and the walker reads no more link words (R138, log 24). -/
def State.dropUnissued (s : State) : State :=
  match s.walker.activity with
  | .linkRead | .fetch _ => if s.readIssued then s else { s with walker := { s.walker with activity := .idle } }
  | .idle | .request _ _ | .waitClose _ _ | .waitFlush _ _ | .waitTally _ _ | .strays _ _ _ | .finish _ _
  | .taken _ _ => s

/-- Step 1 is complete: no order is in progress and no link word is being read (R138, log 24). -/
def State.stop1 (s : State) : State :=
  if s.global = .stopping .order ∧ s.walker.activity.isIdle = true then { s with global := .stopping .held } else s

/-- No held order is left and no outcome is to be written. -/
def Walker.settledAll (w : Walker) : Bool :=
  w.held.isEmpty && w.heldBarrier.isNone && w.outcomes.isEmpty && w.writing.isNone

/-- Step 2 is complete: the walker is PARKED, and step 3 turns both links OFF (R138, R110). -/
def State.stop2 (s : State) : State :=
  if s.global = .stopping .held ∧ s.walker.settledAll = true then
    (({ s with global := .stopping .links, walker := { s.walker with state := .parked } }).linkOff .a).linkOff .b
  else s

/-- Step 4 closes a stream that is not CLOSED and not already closing (R15). -/
def State.stopStream (s : State) (n : StreamId) : State :=
  if (s.stream n).state ≠ .closed ∧ (s.stream n).closing = none then s.closeNow n .stop else s

/-- Step 3 is complete: both links are OFF and the Acceptance Unit is FREE; step 4 closes every open stream (R15). -/
def State.stop3 (s : State) : State :=
  if s.global = .stopping .links ∧ s.rxA.state = .off ∧ s.rxB.state = .off ∧ s.acceptance.held = none then
    (List.finRange 64).foldl State.stopStream { s with global := .stopping .streams }
  else s

/-- Every stream is CLOSED. -/
def State.allClosed (s : State) : Bool := s.streams.all (fun st => st.state == .closed)

/-- Step 4 is complete: step 5 adds every changed record to the tally-pending set (R166). -/
def State.stop4 (s : State) : State :=
  if s.global = .stopping .streams ∧ s.allClosed = true then { s.joinChanged with global := .stopping .tallies } else s

/-- The tally-pending set is empty and no tally write is in flight. -/
def Tally.quiet (t : Tally) : Bool := t.pending.all (fun m => m.isNone) && t.write.isNone

/-- Step 5 is complete: the part enters IDLE and raises STOPPED; with RUN 1 STARTING begins at once (R175). -/
def State.stop5 (s : State) : State :=
  if s.global = .stopping .tallies ∧ s.tally.quiet = true then
    let s1 := s.enterIdle.raise causeStopped
    if s1.run then s1.enterStarting else s1
  else s

/-- The stop sequence goes as far as its steps are complete (R175). -/
def State.advanceStop (s : State) : State := s.stop1.stop2.stop3.stop4.stop5

/-- Entry to STOPPING (R175, R138). -/
def State.enterStopping (s : State) : State := ({ s.dropUnissued with global := .stopping .order } : State).advanceStop

/-- A device timer armed at entry to ACTIVE when its interval is nonzero, the tick counter being 0 (R52, R53). -/
def Timer.start (interval : Half) : Timer :=
  if interval = 0 then { armed := false, due := 0, interval := interval }
  else { armed := true, due := thousands interval, interval := interval }

/-- Entry to ACTIVE with the settings of the root record, then at once STOPPING if RUN is 0 (R174). -/
def State.enterActive (divider : Nat) (sweep tallyInterval : Half) (base : Word) (s : State) : State :=
  let s1 : State :=
    { s with
      global := .active
      time := { s.time with
        tick := 0, divider := divider, divCount := 0, sweep := .start sweep, tally := .start tallyInterval }
      tally := { s.tally with base := base, pending := s.tally.pending.map joined }
      walker := { s.walker with cursor := s.root + 8, state := .walking, activity := .linkRead } }
  if s1.run then s1 else s1.enterStopping

/-! ### The resets (R178) -/

/-- A soft reset: work abandoned, blocks and registers reset, ROOT kept. -/
def State.softReset (s : State) : State :=
  { s.abandonFlight.resetBlocks with
    run := false, global := .idle, faultReason := .none, faultAddr := 0, cause := 0, enable := 0 }

/-- Assertion of the reset input: as a soft reset, and ROOT is 0. -/
def State.pinReset (s : State) : State := { s.softReset with root := 0, resetHeld := true }

end Sys2Proof.Machine
end

