-- ==== Sys2Proof/Machine/Registers.lean ====
section
/-! DEFINITION. The register window (chapter 11, sections 11.1 and 11.2): reads, writes, and the commands RUN, NUDGE,
SRST, CAUSE_CLEAR, ENABLE_WRITE, ROOT_WRITE, REGISTER_WRITE_IGNORED, PIN_RESET and PIN_RESET_RELEASE. -/

namespace Sys2Proof.Machine

open Sys2Proof

/-! ### Reads (R170, R172): a read changes no state, so it is a function and no command -/

def GlobalState.code : GlobalState → Word
  | .idle => 0
  | .starting => 1
  | .active => 2
  | .stopping _ => 3
  | .faulted => 4

def FaultReason.code : FaultReason → Word
  | .none => 0
  | .root => 1
  | .badLink => 2
  | .busError => 3
  | .busTimeout => 4

def WalkerState.code : WalkerState → Word
  | .parked => 0
  | .walking => 1
  | .barrierWait => 2

/-- The STATE register: global state at bits 2-0, fault reason at 10-8, walker state at 17-16. -/
def State.stateRegister (s : State) : Word :=
  s.global.code ||| (s.faultReason.code <<< 8) ||| (s.walker.state.code <<< 16)

/-- The value of the register that holds a window offset. -/
def State.readRegister (s : State) (offset : BitVec 5) : Word :=
  match (offset.extractLsb' 2 3).toNat with
  | 0 => Config.ident
  | 1 => if s.run then 1 else 0
  | 2 => s.stateRegister
  | 3 => s.root
  | 4 => s.cause.zeroExtend 32
  | 5 => s.enable.zeroExtend 32
  | 6 => s.faultAddr
  | _ => s.time.tick

/-- A read of the window returns the addressed bytes of the register, as a number (R170, log 17). -/
def State.readWindow (s : State) (offset : BitVec 5) (size : AccessSize) : Word :=
  let v := s.readRegister offset >>> (8 * (offset.extractLsb' 0 2).toNat)
  match size with
  | .byte => v &&& 0xFF#32
  | .half => v &&& 0xFFFF#32
  | .word => v

/-! ### Writes -/

/-- The RUN bit of a CONTROL write acts on the global state (R171). -/
def State.writeRun (value : Bool) (s : State) : State :=
  let s1 := { s with run := value }
  match s.global with
  | .idle => if value then s1.enterStarting else s1
  | .active => if value then s1 else s1.enterStopping
  | .faulted => if value then s1 else s1.enterIdle
  | .starting | .stopping _ => s1

/-- A CONTROL write (R171): SRST discards the other two bits; NUDGE is taken with the state the RUN bit leaves. -/
def State.writeControl (v : Word) (s : State) : State :=
  if v.getLsbD 2 then s.softReset
  else
    let s1 := s.writeRun (v.getLsbD 0)
    if v.getLsbD 1 then s1.nudge else s1

/-- A CAUSE write clears each bit written as 1 (R168). -/
def State.clearCauses (v : Word) (s : State) : State := { s with cause := s.cause &&& ~~~ (v.extractLsb' 0 7) }

/-- An ENABLE write replaces all seven enables (R169). -/
def State.writeEnable (v : Word) (s : State) : State := { s with enable := v.extractLsb' 0 7 }

/-- A ROOT write is stored in IDLE only (R172). -/
def State.writeRoot (v : Word) (s : State) : State := if s.global = .idle then { s with root := v } else s

/-- A write of the window (R170): a narrow write is ignored, and so is a write while the reset input is asserted
(R178). A 32-bit write at an offset that is no multiple of 4 is ignored too: which register it addresses the manual does
not say (log 27). -/
def State.writeWindow (offset : BitVec 5) (size : AccessSize) (v : Word) (s : State) : State :=
  if s.resetHeld then s
  else
    match size with
    | .byte | .half => s
    | .word =>
      match offset.toNat with
      | 0x04 => s.writeControl v
      | 0x0C => s.writeRoot v
      | 0x10 => s.clearCauses v
      | 0x14 => s.writeEnable v
      | _ => s

/-! ### The commands -/

/-- RUN (R171, R173 to R177). -/
def execRun (value : Word) (s : State) : Host.Outcome State Fault Refusal := .next (s.writeWindow 0x04#5 .word value)

/-- NUDGE (R171, R133). -/
def execNudge (value : Word) (s : State) : Host.Outcome State Fault Refusal := .next (s.writeWindow 0x04#5 .word value)

/-- SRST (R171, R178). -/
def execSrst (value : Word) (s : State) : Host.Outcome State Fault Refusal := .next (s.writeWindow 0x04#5 .word value)

/-- CAUSE_CLEAR (R168). -/
def execCauseClear (value : Word) (s : State) : Host.Outcome State Fault Refusal :=
  .next (s.writeWindow 0x10#5 .word value)

/-- ENABLE_WRITE (R169). -/
def execEnableWrite (value : Word) (s : State) : Host.Outcome State Fault Refusal :=
  .next (s.writeWindow 0x14#5 .word value)

/-- ROOT_WRITE (R172). -/
def execRootWrite (value : Word) (s : State) : Host.Outcome State Fault Refusal :=
  .next (s.writeWindow 0x0C#5 .word value)

/-- REGISTER_WRITE_IGNORED (R170). -/
def execRegisterWriteIgnored (offset : BitVec 5) (size : AccessSize) (value : Word) (s : State) :
    Host.Outcome State Fault Refusal :=
  .next (s.writeWindow offset size value)

/-- PIN_RESET (R178). -/
def execPinReset (s : State) : Host.Outcome State Fault Refusal := .next s.pinReset

/-- PIN_RESET_RELEASE (R178). -/
def execPinResetRelease (s : State) : Host.Outcome State Fault Refusal := .next { s with resetHeld := false }

end Sys2Proof.Machine
end

