-- ==== Sys2Proof/Machine/StreamEngine.lean ====
section
/-! DEFINITION. The Stream Engine: release, fill, skip and stall at a HEAD expiry (chapter 4), the cut at a SILENCE
expiry (R70), and what a stream does with an offered burst (chapter 2). The commands HEAD_EXPIRY and SILENCE_EXPIRY. -/

namespace Sys2Proof.Machine

open Sys2Proof

/-! ### The window and the advance of the head -/

/-- The burst in slot 0. -/
def slot0 : List (Option Burst) → Option Burst
  | some b :: _ => some b
  | none :: _ => none
  | [] => none

/-- The lowest occupied offset. -/
def lowestOccupied (window : List (Option Burst)) : Option Nat := window.findIdx? (fun slot => slot.isSome)

/-- The head advances by k sequences from the deadline that expired: head, head deadline, window (R61, R62). -/
def Stream.advance (due : Word) (k : Nat) (st : Stream) : Stream :=
  { st with
    head := st.head + BitVec.ofNat 16 k
    headDeadline := due + BitVec.ofNat 32 k * st.config.p
    window := st.window.drop k ++ List.replicate k none }

/-- A stream alarm raises ALARM when NOTIFY ALARMS is on (R73). -/
def State.alarm (n : StreamId) (s : State) : State := s.raiseIf (s.stream n).config.options.notifyAlarms causeAlarm

/-! ### Into the delivery queue (R64, R68) -/

/-- A released record is offered to the queue: it enters with the pending notes, or is dropped and starved. -/
def State.offerRecord (n : StreamId) (r : QueueRecord) (s : State) : State :=
  if (s.stream n).queue.length < (s.stream n).config.q then
    s.modStream n (fun st => { st with queue := st.queue ++ [{ r with notes := st.notes }], notes := .clear })
  else
    (s.modStream n (fun st =>
      ({ st with notes := { st.notes with starved := satAdd st.notes.starved 1 } } : Stream).tally
        (fun c => { c with starved := c.starved + 1 }))).freeBuffers r.content.buffers

/-! ### The four actions of a HEAD expiry (R55) -/

/-- The DATA record of a burst (R56). -/
def dataRecord (head : Half) (due : Word) (b : Burst) : QueueRecord :=
  { kind := .data, sequence := head, releaseTick := due, count := b.length, content := .buffer b.buffer,
    link := some b.link, originTime := b.originTime, mark := b.mark, test := b.test, repeated := false,
    notes := .clear }

/-- A FILL record (R56). -/
def fillRecord (head : Half) (due : Word) (count : Nat) (content : RecordContent) (repeated : Bool) : QueueRecord :=
  { kind := .fill, sequence := head, releaseTick := due, count := count, content := content, link := none,
    originTime := 0, mark := false, test := false, repeated := repeated, notes := .clear }

/-- After an advance: HEAD is armed at the new head deadline, but for a DRAINING stream whose window is empty, which
tests whether its closing sequence begins (R61, R66). -/
def State.rearmHead (n : StreamId) (s : State) : State :=
  if (s.stream n).state = .draining ∧ windowEmpty (s.stream n).window = true then s.testDrained n
  else s.arm n .head (s.stream n).headDeadline

/-- DATA release (R57, R58, R66). -/
def State.releaseData (n : StreamId) (due : Word) (b : Burst) (s : State) : State :=
  let samples := s.store.buffers[b.buffer]
  let r := dataRecord (s.stream n).head due b
  let s1 := s.modStream n (fun st =>
    ({ st with repeatStore := samples, fillsInRow := 0 } : Stream).tally
      (fun c => { c with releasedData := c.releasedData + 1 }))
  ((s1.offerRecord n r).modStream n (Stream.advance due 1)).rearmHead n

/-- The FILL record a stream makes by its fill policy, and the state after its buffer claim (R60). -/
def State.makeFill (n : StreamId) (due : Word) (s : State) : Option (QueueRecord × State) :=
  let st := s.stream n
  let constant := fillRecord st.head due st.config.l (.fillWord st.config.fillWord) false
  match st.config.fillPolicy with
  | .constant => some (constant, s)
  | .markOnly => some (fillRecord st.head due 0 .empty false, s)
  | .repeatStore =>
    if st.repeatStore.isEmpty then some (constant, s)
    else
      match s.claim st.repeatStore with
      | some (b, s1) => some (fillRecord st.head due st.repeatStore.length (.buffer b) true, s1)
      | none => none

/-- FILL release (R59); none when a REPEAT fill finds no buffer (log 21). -/
def State.releaseFill (n : StreamId) (due : Word) (s : State) : Option State :=
  match s.makeFill n due with
  | none => none
  | some (r, s1) =>
    let s2 := s1.modStream n (fun st =>
      ({ st with fillsInRow := st.fillsInRow + 1 } : Stream).tally (fun c => { c with fillRecords := c.fillRecords + 1 }))
    some (((s2.offerRecord n r).modStream n (Stream.advance due 1)).rearmHead n)

/-- Skip-ahead by k sequences (R62, R66). -/
def State.skipAhead (n : StreamId) (due : Word) (k : Nat) (s : State) : State :=
  let s1 := s.modStream n (fun st =>
    (({ st with
        notes := { st.notes with skipped := satAdd st.notes.skipped k }, fillsInRow := 0 } : Stream).tally
      (fun c => { c with skippedSequences := c.skippedSequences + BitVec.ofNat 32 k })).advance due k)
  s1.arm n .head (s1.stream n).headDeadline

/-- Stall (R63). -/
def State.stall (n : StreamId) (s : State) : State :=
  ((s.changeState n .stalled).modStream n (fun st =>
    ({ st with notes := { st.notes with stall := true } } : Stream).tally
      (fun c => { c with stalls := c.stalls + 1 }))).alarm n

/-- A HEAD expiry taken by its stream (R55, R66); none when a REPEAT fill finds no buffer (log 21). The entry has left
the queue. In a state that holds no HEAD entry (R50) nothing more happens (log 23). -/
def State.headExpiry (n : StreamId) (due : Word) (s : State) : Option State :=
  let st := s.stream n
  match st.state with
  | .running =>
    match slot0 st.window with
    | some b => some (s.releaseData n due b)
    | none =>
      if st.fillsInRow < st.config.f then s.releaseFill n due
      else
        match lowestOccupied st.window with
        | some k => some (s.skipAhead n due k)
        | none => some (s.stall n)
  | .draining =>
    match slot0 st.window with
    | some b => some (s.releaseData n due b)
    | none =>
      match lowestOccupied st.window with
      | some k => some (s.skipAhead n due k)
      | none => some s
  | .closed | .acquiring | .stalled | .cut => some s

/-- HEAD_EXPIRY (R55). An expiry that is not due does not occur (log 1). -/
def execHeadExpiry (n : StreamId) (s : State) : Host.Outcome State Fault Refusal :=
  match s.expired n .head with
  | none => .next s
  | some due =>
    match (s.cancel n .head).headExpiry n due with
    | some t => .next t
    | none => .fault .noFreeBuffer

/-! ### The SILENCE expiry (R70) -/

/-- A stream found silent is cut. -/
def State.cutStream (n : StreamId) (s : State) : State :=
  ((((s.flushWindow n).cancel n .head).changeState n .cut).modStream n (fun st =>
    ({ st with notes := { st.notes with cut := true } } : Stream).tally (fun c => { c with cuts := c.cuts + 1 }))).alarm n

/-- A SILENCE expiry taken by its stream; the entry has left the queue (R70, log 23). -/
def State.silenceExpiry (n : StreamId) (s : State) : State :=
  match (s.stream n).state with
  | .acquiring | .running | .stalled => s.cutStream n
  | .closed | .cut | .draining => s

/-- SILENCE_EXPIRY (R70). -/
def execSilenceExpiry (n : StreamId) (s : State) : Host.Outcome State Fault Refusal :=
  match s.expired n .silence with
  | none => .next s
  | some _ => .next ((s.cancel n .silence).silenceExpiry n)

/-! ### Offers (chapter 2) -/

/-- The burst as a slot holds it (R23). -/
def slotBurst (b : BufferId) (f : Frame) (link : LinkId) (arrival : Word) : Burst :=
  { buffer := b, sequence := f.sequence, length := f.samples.length, originTime := f.originTime, mark := f.mark,
    test := f.test, link := link, arrival := arrival }

/-- The margin of a burst stored at offset o (R34). -/
def Stream.margin (st : Stream) (o : Nat) (arrival : Word) : Word :=
  st.headDeadline + BitVec.ofNat 32 o * st.config.p - arrival

/-- A stream with a nonzero silence period arms SILENCE at the arrival tick plus the period (R35). -/
def State.armSilence (n : StreamId) (arrival : Word) (s : State) : State :=
  if (s.stream n).config.silence = 0 then s
  else s.arm n .silence (arrival + thousands (s.stream n).config.silence)

/-- Copies an offered burst into a claimed buffer and places it in slot o (R25, R31); its margin is noted (R34). -/
def State.placeBurst (n : StreamId) (o : Nat) (f : Frame) (link : LinkId) (s : State) : Option State :=
  match s.claim f.samples with
  | none => none
  | some (b, s1) =>
    some (s1.modStream n (fun st =>
      ({ st with
          window := st.window.set o (some (slotBurst b f link s.time.tick)), earlyRun := 0 } : Stream).noteMargin
        (st.margin o s.time.tick)))

/-- An in-window burst whose slot is empty is stored (R31). -/
def State.storeBurst (n : StreamId) (o : Nat) (f : Frame) (link : LinkId) (s : State) : Option State :=
  (s.placeBurst n o f link).map (State.armSilence n s.time.tick)

/-- Anchoring is a resync when the stream has anchored before (R29). -/
def Stream.countAnchoring (st : Stream) : Stream :=
  if st.anchoredOnce then
    ({ st with notes := { st.notes with resync := true } } : Stream).tally
      (fun c => { c with resyncs := c.resyncs + 1 })
  else { st with anchoredOnce := true }

/-- The stream anchors on a burst (R27 to R29); the window is empty. -/
def State.anchor (n : StreamId) (f : Frame) (link : LinkId) (s : State) : Option State :=
  let t := s.time.tick
  let s1 := s.modStream n (fun st =>
    { st with head := f.sequence, headDeadline := t + st.config.d, fillsInRow := 0 })
  match s1.placeBurst n 0 f link with
  | none => none
  | some s2 =>
    let s3 := ((s2.arm n .head (s2.stream n).headDeadline).armSilence n t).changeState n .running
    some (s3.modStream n Stream.countAnchoring)

/-- A burst offered to a stream that waits to anchor (R26). -/
def State.offerToWaiting (n : StreamId) (f : Frame) (link : LinkId) (s : State) : Option State :=
  if (s.stream n).config.options.markSync && !f.mark then
    some (s.modStream n (Stream.tally (fun c => { c with unsynced := c.unsynced + 1 })))
  else s.anchor n f link

/-- A resync (R33): the window is flushed; the stream anchors on the burst, or goes ACQUIRING. -/
def State.resync (n : StreamId) (f : Frame) (link : LinkId) (s : State) : Option State :=
  let s1 := (s.flushWindow n).alarm n
  if (s1.stream n).config.options.markSync && !f.mark then
    some (((s1.cancel n .head).modStream n (fun st => { st with earlyRun := 0 })).changeState n .acquiring)
  else s1.anchor n f link

/-- An early burst is counted and may trigger a resync (R33). -/
def State.offerEarly (n : StreamId) (f : Frame) (link : LinkId) (s : State) : Option State :=
  let s1 := s.modStream n (fun st =>
    ({ st with earlyRun := earlyRunAfter st.earlyRun } : Stream).tally (fun c => { c with early := c.early + 1 }))
  if (s1.stream n).config.k = 0 ∨ (s1.stream n).earlyRun < (s1.stream n).config.k then some s1
  else s1.resync n f link

/-- The offset of a sequence from a stream's head (R30). -/
def Stream.offset (st : Stream) (sequence : Half) : Nat := (sequence - st.head).toNat

/-- A burst offered to a RUNNING stream, by its offset (R30 to R33). -/
def State.offerToRunning (n : StreamId) (f : Frame) (link : LinkId) (s : State) : Option State :=
  let st := s.stream n
  let o := st.offset f.sequence
  if o < st.config.w then
    if (st.window.getD o none).isSome then
      some (s.modStream n (Stream.tally (fun c => { c with duplicate := c.duplicate + 1 })))
    else s.storeBurst n o f link
  else if o < 32768 then s.offerEarly n f link
  else some (s.modStream n (Stream.tally (fun c => { c with late := c.late + 1 })))

/-- An offer is refused and counted closed-stream (R5, R119). -/
def State.refuseOffer (s : State) : State :=
  ({ s with acceptance := { s.acceptance with
      counters := { s.acceptance.counters with closedStream := s.acceptance.counters.closedStream + 1 } } }).markDevice

/-- A stream takes an offer, by its state (R25); none when a claim finds no buffer (log 21). -/
def State.takeOffer (n : StreamId) (f : Frame) (link : LinkId) (s : State) : Option State :=
  match (s.stream n).state with
  | .closed | .draining => some s.refuseOffer
  | .acquiring | .stalled | .cut => s.offerToWaiting n f link
  | .running => s.offerToRunning n f link

end Sys2Proof.Machine
end

