-- ==== Sys2Proof/Machine/Acceptance.lean ====
section
/-! DEFINITION. The Acceptance Unit (chapter 7): the take with its filter, route and checks, the offer, and the
commands TAKE, OFFER, SET_ROUTE, CLEAR_ROUTE and READ_STRAYS. -/

namespace Sys2Proof.Machine

open Sys2Proof

/-! ### The staging buffers (R106) -/

/-- The buffer becomes FREE. -/
def State.releaseStaging (l : LinkId) (i : Fin 2) (s : State) : State :=
  s.setRx l { s.rx l with staging := (s.rx l).staging.set i.val .free i.isLt }

/-- The frame of a staging buffer. -/
def Staging.frame : Staging → Option Frame
  | .free => none
  | .full f => some f
  | .held f => some f

def otherLink : LinkId → LinkId
  | .a => .b
  | .b => .a

/-- The link the arbiter chooses: one with a FULL buffer, and of two the one not served last (R113). -/
def State.arbitratedLink (s : State) : Option LinkId :=
  let turn := otherLink s.acceptance.lastLink
  if !(s.rx turn).order.isEmpty then some turn
  else if !(s.rx s.acceptance.lastLink).order.isEmpty then some s.acceptance.lastLink
  else none

/-! ### The checks of a take (R114, R116, R120, R121) -/

/-- A counter of the Acceptance Unit changes (R125). -/
def State.countAcceptance (f : AcceptanceCounters → AcceptanceCounters) (s : State) : State :=
  ({ s with acceptance := { s.acceptance with counters := f s.acceptance.counters } }).markDevice

/-- The filter passes a tag: tag AND mask equals value AND mask (R114). -/
def Receiver.passes (r : Receiver) (tag : Half) : Bool := (tag &&& r.filterMask) == (r.filterValue &&& r.filterMask)

def countFiltered (l : LinkId) (c : AcceptanceCounters) : AcceptanceCounters :=
  match l with
  | .a => { c with filteredA := c.filteredA + 1 }
  | .b => { c with filteredB := c.filteredB + 1 }

/-- The valid entry that carries a tag (R116). -/
def State.routeFor (s : State) (tag : Half) : Option Route :=
  s.acceptance.routes.toList.findSome? (fun e =>
    match e with
    | some r => if r.tag = tag then some r else none
    | none => none)

/-- The link mask admits a link: 1 for A, 2 for B (R115). -/
def Route.admits (r : Route) (l : LinkId) : Bool :=
  match l with
  | .a => r.mask.getLsbD 0
  | .b => r.mask.getLsbD 1

/-- A stray is added at the tail, the oldest being lost from a full list; STRAY is raised by an empty one (R120,
R121). -/
def State.addStray (l : LinkId) (f : Frame) (s : State) : State :=
  let entry : Stray :=
    { tag := f.tag, sequence := f.sequence, length := f.samples.length, link := l, arrival := s.time.tick }
  let full := decide (Config.strayRoom ≤ s.acceptance.strays.length)
  let kept := if full then s.acceptance.strays.drop 1 else s.acceptance.strays
  (({ s with acceptance := { s.acceptance with strays := kept ++ [entry] } }).countAcceptance (fun c =>
    { c with
      strays := c.strays + 1
      strayOverflows := if full then c.strayOverflows + 1 else c.strayOverflows })).raiseIf
    s.acceptance.strays.isEmpty causeStray

/-- The fate of a frame at its take (R117). -/
inductive Fate where
  | filtered | stray | wrongLink | closedStream | testDiscard
  | offered (stream : StreamId)
deriving DecidableEq, Repr

/-- The checks of a take, in order: filter, route, link, closed stream, test (R114, R116). -/
def State.fate (s : State) (l : LinkId) (f : Frame) : Fate :=
  if !(s.rx l).passes f.tag then .filtered
  else
    match s.routeFor f.tag with
    | none => .stray
    | some r =>
      if !r.admits l then .wrongLink
      else if (s.stream r.stream).state = .closed then .closedStream
      else if f.test && !(s.stream r.stream).config.options.acceptTest then .testDiscard
      else .offered r.stream

/-- What the fate does: a discarded frame is counted and its buffer released; an offered one is held (R112). -/
def State.settleTake (l : LinkId) (i : Fin 2) (f : Frame) (s : State) : State :=
  match s.fate l f with
  | .filtered => (s.countAcceptance (countFiltered l)).releaseStaging l i
  | .stray => (s.addStray l f).releaseStaging l i
  | .wrongLink => (s.countAcceptance (fun c => { c with wrongLink := c.wrongLink + 1 })).releaseStaging l i
  | .closedStream => (s.countAcceptance (fun c => { c with closedStream := c.closedStream + 1 })).releaseStaging l i
  | .testDiscard => (s.countAcceptance (fun c => { c with testDiscards := c.testDiscards + 1 })).releaseStaging l i
  | .offered n =>
    { s with acceptance := { s.acceptance with held := some { link := l, index := i, frame := f, stream := n } } }

/-- The take of a link's oldest FULL buffer, which becomes HELD and leaves the order; the link is the last served
(R106, R112, R113). -/
def State.takeFrom (l : LinkId) (s : State) : State :=
  match (s.rx l).order with
  | [] => s
  | i :: rest =>
    match ((s.rx l).staging[i]).frame with
    | none => s
    | some f =>
      let s1 := s.setRx l { s.rx l with order := rest, staging := (s.rx l).staging.set i.val (.held f) i.isLt }
      let s2 := { s1 with acceptance := { s1.acceptance with lastLink := l } }
      s2.settleTake l i f

/-- TAKE (R112): only while FREE and with a FULL buffer (log 1). -/
def execTake (s : State) : Host.Outcome State Fault Refusal :=
  if s.global.working = true ∧ s.acceptance.held = none then
    match s.arbitratedLink with
    | some l => .next (s.takeFrom l)
    | none => .next s
  else .next s

/-- OFFER (R25, R119): the stream takes the held burst, the staging buffer is released, the unit is FREE. -/
def execOffer (s : State) : Host.Outcome State Fault Refusal :=
  if s.global.working then
    match s.acceptance.held with
    | none => .next s
    | some h =>
      match (({ s with acceptance := { s.acceptance with held := none } }).releaseStaging h.link h.index).takeOffer
          h.stream h.frame h.link with
      | some t => .next t.advanceStop
      | none => .fault .noFreeBuffer
  else .next s

/-! ### Requests from orders (R122, R123) -/

/-- The index, other than one named, of a valid entry that carries a tag (R122). -/
def State.conflictIndex (s : State) (index : Fin 64) (tag : Half) : Option (Fin 64) :=
  (List.finRange 64).find? (fun i =>
    i != index &&
      match s.acceptance.routes[i] with
      | some r => r.tag == tag
      | none => false)

def State.setRouteEntry (index : Fin 64) (entry : Option Route) (s : State) : State :=
  { s with acceptance := { s.acceptance with routes := s.acceptance.routes.set index.val entry index.isLt } }

/-- SET_ROUTE (R122, R151). -/
def execSetRoute (s : State) : Host.Outcome State Fault Refusal :=
  if s.global.working then
    match s.walker.activity with
    | .request ref (.setRoute index route) =>
      match s.conflictIndex index route.tag with
      | some i => .next (s.answer ref .conflict (BitVec.ofNat 32 i.val))
      | none => .next ((s.setRouteEntry index (some route)).answer ref .ok 0)
    | _ => .next s
  else .next s

/-- CLEAR_ROUTE (R122, R152). -/
def execClearRoute (s : State) : Host.Outcome State Fault Refusal :=
  if s.global.working then
    match s.walker.activity with
    | .request ref (.clearRoute index) =>
      match s.acceptance.routes[index] with
      | some _ => .next ((s.setRouteEntry index none).answer ref .ok 0)
      | none => .next (s.answer ref .nothing 0)
    | _ => .next s
  else .next s

/-- READ_STRAYS (R123, R155): the list is handed to the walker and emptied; an empty list is DONE at once. -/
def execReadStrays (s : State) : Host.Outcome State Fault Refusal :=
  if s.global.working then
    match s.walker.activity with
    | .request ref (.readStrays buffer) =>
      let entries := s.acceptance.strays
      let s1 := { s with acceptance := { s.acceptance with strays := [] } }
      if entries.isEmpty then .next (s1.answer ref .ok 0)
      else .next (s1.setActivity (.strays ref (strayTxs buffer entries) (BitVec.ofNat 32 entries.length)))
    | _ => .next s
  else .next s

end Sys2Proof.Machine
end

