-- ==== Sys2Proof/Machine/Links.lean ====
section
/-! DEFINITION. The Link Receivers (chapter 6): line symbols, link states, frame assembly, the checks at END, staging.
The commands IDLE_SYMBOL, START_SYMBOL, DATA_SYMBOL, END_SYMBOL, VIOLATION_SYMBOL, LINE_LOSS and SET_LINK. -/

namespace Sys2Proof.Machine

open Sys2Proof

/-! ### Changes of link state -/

/-- OFF to HUNT (R99). -/
def State.enterHunt (l : LinkId) (s : State) : State :=
  (s.setRx l { (s.rx l).outside with state := .hunt, idleRun := 0, lossCount := 0, symbolTaken := false }).markDevice

/-- HUNT to UP raises LINK (R100, R109); the idle run is log 13. -/
def State.enterUp (l : LinkId) (s : State) : State :=
  ((s.setRx l { (s.rx l).outside with state := .up, idleRun := 0, violationRun := 0 }).markDevice).raise causeLink

/-- One format error is counted (R108). -/
def State.formatError (l : LinkId) (s : State) : State :=
  s.countLink l (fun c => { c with formatErrors := c.formatErrors + 1 })

/-- UP to HUNT (R101): a partial frame is a format error, LINK is raised; the violation run is log 13. -/
def State.leaveUp (l : LinkId) (s : State) : State :=
  let s1 := if (s.rx l).assembly = .inFrame then s.formatError l else s
  ((s1.setRx l { (s1.rx l).outside with state := .hunt, idleRun := 0, violationRun := 0 }).markDevice).raise causeLink

/-! ### Frame assembly (R103, R104) -/

def State.setViolationRun (l : LinkId) (k : Nat) (s : State) : State :=
  s.setRx l { s.rx l with violationRun := k }

/-- The frame assembly goes OUTSIDE. -/
def State.frameOutside (l : LinkId) (s : State) : State := s.setRx l (s.rx l).outside

/-- A VIOLATION, or a symbol that counts as one, extends the violation run; at 8 the link leaves UP (R101). -/
def State.violation (l : LinkId) (s : State) : State :=
  let k := (s.rx l).violationRun + 1
  if 8 ≤ k then s.leaveUp l else s.setViolationRun l k

/-- A new frame begins with byte count 0 (R103, R181). -/
def State.beginFrame (l : LinkId) (s : State) : State :=
  s.setRx l { (s.rx l).outside with assembly := .inFrame }

/-- A byte taken IN FRAME: appended, or the frame passes 142 bytes and is discarded (R104). -/
def State.appendByte (l : LinkId) (b : Byte) (s : State) : State :=
  if (s.rx l).bytes.length < Config.frameBytes then
    s.setRx l { s.rx l with bytes := (s.rx l).bytes ++ [b], check := crcByte (s.rx l).check b }
  else
    let s1 := s.formatError l
    s1.setRx l { (s1.rx l).outside with assembly := .discarding }

/-! ### The checks at END (R105) and staging (R106) -/

/-- The length check: at least 16 bytes, n from 1 to 64, byte count 10 + 2n + 4. -/
def lengthOk (bytes : List Byte) : Bool :=
  let n := (frameByte bytes 8).toNat
  decide (16 ≤ bytes.length ∧ 1 ≤ n ∧ n ≤ 64 ∧ bytes.length = 10 + 2 * n + 4)

/-- The flag check: bits 2 to 7 of the tenth byte are zero. -/
def flagsOk (bytes : List Byte) : Bool := (frameByte bytes 9).extractLsb' 2 6 == 0#6

/-- The frame check over the first 10 + 2n bytes equals the last four (R181). -/
def checkOk (bytes : List Byte) : Bool :=
  let n := (frameByte bytes 8).toNat
  frameCheck (bytes.take (10 + 2 * n)) == frameWord bytes (10 + 2 * n)

/-- The first FREE staging buffer (log 8). -/
def Receiver.freeStaging (r : Receiver) : Option (Fin 2) :=
  if r.staging[(0 : Fin 2)] = .free then some 0
  else if r.staging[(1 : Fin 2)] = .free then some 1
  else none

/-- A good frame is staged and counted good, or counted overrun (R106). -/
def State.stageFrame (l : LinkId) (f : Frame) (s : State) : State :=
  match (s.rx l).freeStaging with
  | some i =>
    (s.setRx l { s.rx l with
        staging := (s.rx l).staging.set i.val (.full f) i.isLt, order := (s.rx l).order ++ [i] }).countLink l
      (fun c => { c with good := c.good + 1 })
  | none => s.countLink l (fun c => { c with overruns := c.overruns + 1 })

/-- A frame ended by END is checked; the assembly goes OUTSIDE (R105). -/
def State.endFrame (l : LinkId) (s : State) : State :=
  let bytes := (s.rx l).bytes
  let s1 := s.frameOutside l
  if !lengthOk bytes || !flagsOk bytes then s1.formatError l
  else if !checkOk bytes then s1.countLink l (fun c => { c with checkErrors := c.checkErrors + 1 })
  else s1.stageFrame l (frameOf bytes)

/-! ### Symbols -/

/-- A receiver in HUNT or UP takes a symbol: the line-loss count is 0 again (R97, R98). -/
def Receiver.sawSymbol (r : Receiver) : Receiver := { r with lossCount := 0, symbolTaken := true }

/-- A symbol other than IDLE in HUNT sets the idle run to 0 (R100). -/
def State.breakIdleRun (l : LinkId) (s : State) : State := s.setRx l { s.rx l with idleRun := 0 }

/-- An IDLE in HUNT: the eighth in a row brings the link UP (R100). -/
def State.idleInHunt (l : LinkId) (s : State) : State :=
  if 8 ≤ (s.rx l).idleRun + 1 then s.enterUp l
  else s.setRx l { s.rx l with idleRun := (s.rx l).idleRun + 1 }

/-- An IDLE in UP (R103). -/
def State.idleInUp (l : LinkId) (s : State) : State :=
  let s1 := s.setViolationRun l 0
  match (s.rx l).assembly with
  | .outside => s1
  | .inFrame => (s1.formatError l).frameOutside l
  | .discarding => s1.frameOutside l

/-- A START in UP (R103). -/
def State.startInUp (l : LinkId) (s : State) : State :=
  let s1 := s.setViolationRun l 0
  match (s.rx l).assembly with
  | .outside | .discarding => s1.beginFrame l
  | .inFrame => (s1.formatError l).beginFrame l

/-- A DATA in UP (R103). -/
def State.dataInUp (l : LinkId) (b : Byte) (s : State) : State :=
  match (s.rx l).assembly with
  | .outside => s.violation l
  | .inFrame => (s.setViolationRun l 0).appendByte l b
  | .discarding => s.setViolationRun l 0

/-- An END in UP (R103). -/
def State.endInUp (l : LinkId) (s : State) : State :=
  match (s.rx l).assembly with
  | .outside => s.violation l
  | .inFrame => (s.setViolationRun l 0).endFrame l
  | .discarding => (s.setViolationRun l 0).frameOutside l

/-- A VIOLATION in UP (R103). -/
def State.violationInUp (l : LinkId) (s : State) : State :=
  match (s.rx l).assembly with
  | .outside | .discarding => s.violation l
  | .inFrame => ((s.formatError l).frameOutside l).violation l

/-- A symbol is one event: lost when the link is OFF or the part does not work (R97, R110), else taken by the link
state. -/
def State.symbol (l : LinkId) (inHunt inUp : State → State) (s : State) : State :=
  if s.global.working then
    match (s.rx l).state with
    | .off => s
    | .hunt => inHunt (s.setRx l (s.rx l).sawSymbol)
    | .up => inUp (s.setRx l (s.rx l).sawSymbol)
  else s

/-- A line-loss event (R98, R100, R101). -/
def State.lineLoss (l : LinkId) (s : State) : State :=
  if s.global.working then
    match (s.rx l).state with
    | .off => s
    | .hunt => s.setRx l { s.rx l with lossCount := 0, idleRun := 0 }
    | .up => (s.setRx l { s.rx l with lossCount := 0 }).leaveUp l
  else s

/-! ### The commands -/

/-- IDLE_SYMBOL (R100, R103). -/
def execIdleSymbol (l : LinkId) (s : State) : Host.Outcome State Fault Refusal :=
  .next (s.symbol l (State.idleInHunt l) (State.idleInUp l))

/-- START_SYMBOL (R103). -/
def execStartSymbol (l : LinkId) (s : State) : Host.Outcome State Fault Refusal :=
  .next (s.symbol l (State.breakIdleRun l) (State.startInUp l))

/-- DATA_SYMBOL (R104). -/
def execDataSymbol (l : LinkId) (b : Byte) (s : State) : Host.Outcome State Fault Refusal :=
  .next (s.symbol l (State.breakIdleRun l) (State.dataInUp l b))

/-- END_SYMBOL (R105). -/
def execEndSymbol (l : LinkId) (s : State) : Host.Outcome State Fault Refusal :=
  .next (s.symbol l (State.breakIdleRun l) (State.endInUp l))

/-- VIOLATION_SYMBOL (R101). -/
def execViolationSymbol (l : LinkId) (s : State) : Host.Outcome State Fault Refusal :=
  .next (s.symbol l (State.breakIdleRun l) (State.violationInUp l))

/-- LINE_LOSS (R98): the event, whatever the model's count (log 3). -/
def execLineLoss (l : LinkId) (s : State) : Host.Outcome State Fault Refusal := .next (s.lineLoss l)

/-- The receiver's part of an accepted SET LINK (R99). -/
def State.setLink (l : LinkId) (enable : Bool) (value mask : Half) (s : State) : State :=
  let s1 := s.setRx l { s.rx l with filterValue := value, filterMask := mask }
  match enable, (s.rx l).state with
  | true, .off => s1.enterHunt l
  | true, .hunt | true, .up => s1
  | false, _ => s1.linkOff l

/-- SET_LINK (R99, R153). -/
def execSetLink (s : State) : Host.Outcome State Fault Refusal :=
  if s.global.working then
    match s.walker.activity with
    | .request ref (.setLink l enable value mask) => .next ((s.setLink l enable value mask).answer ref .ok 0)
    | _ => .next s
  else .next s

end Sys2Proof.Machine
end

