-- ==== Sys2Proof/Machine/Delivery.lean ====
section
/-! DEFINITION. The Delivery Engine (chapter 5): lane work and its arbiter, placing a record, closing a page, returning
the supply. The commands RECORD_OPERATION, RECORD_WRITE_COMPLETE, PAGE_CLOSE_ISSUE, PAGE_CLOSE_COMPLETE, RETURN_ISSUE,
RETURN_COMPLETE, AGE_EXPIRY, ATTACH_PAGES and FLUSH_PAGE. -/

namespace Sys2Proof.Machine

open Sys2Proof

/-! ### Lane work (R81) and the arbiter (R82) -/

/-- The kinds of lane work. -/
inductive Work where
  | close | giveBack | record
deriving DecidableEq, Repr

/-- A page has room for a record of size r (R81). -/
def Page.hasRoom (p : Page) (sizeCode r : Nat) : Bool := decide (p.used + r ≤ pageBytes sizeCode)

/-- The closing sequence stands at its return step (R81, R94). -/
def Stream.atReturn (st : Stream) : Bool :=
  match st.closing with
  | some c => c.phase == .returnDue || c.phase == .returning
  | none => false

/-- The closing sequence has not yet issued its return. -/
def Stream.returnDue (st : Stream) : Bool :=
  match st.closing with
  | some c => c.phase == .returnDue
  | none => false

/-- The queue-head record can be placed: its page has room, or the supply holds an address (R81). -/
def canPlace (st : Stream) (pg : PageState) : Bool :=
  match st.queue with
  | [] => false
  | r :: _ =>
    (match pg.current with
      | some p => p.hasRoom st.config.sizeCode (recordSize r.count)
      | none => false) || !pg.supply.isEmpty

/-- The first item of a stream's lane work, if it has any; the lane is free (R81). -/
def laneWork (st : Stream) (pg : PageState) : Option Work :=
  match pg.closingPage with
  | some p => if p.issued then none else some .close
  | none =>
    if st.returnDue then some .giveBack
    else if !st.atReturn && canPlace st pg then some .record
    else none

/-- The arbiter's choice: the first ready stream after the last one served, and its work (R82). -/
def State.laneChoice (s : State) : Option (StreamId × Work) :=
  (rotation 64 s.lane.last).findSome? (fun n => (laneWork (s.stream n) (s.page n)).map (fun w => (n, w)))

/-- The stream served when the lane is free and the arbiter's choice is work of a kind. -/
def State.laneTurn (s : State) (w : Work) : Option StreamId :=
  if s.global.working = true ∧ s.lane.op = none then
    match s.laneChoice with
    | some (n, v) => if v = w then some n else none
    | none => none
  else none

/-- The lane begins an operation with its transactions. -/
def State.beginOp (n : StreamId) (op : LaneOp) (txs : List Tx) (s : State) : State :=
  { s with lane := { op := some op, todo := txs, last := n } }

/-- The lane is free again. -/
def State.laneFree (s : State) : State := { s with lane := { s.lane with op := none, todo := [] } }

/-! ### Page closes (R87) -/

/-- The notes a close carries in its trailing fields: those pending for CLOSE and STOP, none for the others (R69). -/
def trailing (reason : CloseReason) (notes : Notes) : Notes :=
  match reason with
  | .close | .stop => notes
  | .full | .age | .flush => .clear

/-- The transactions of the close of a stream's closing page, with the serial already incremented (R87). The trailing notes
go with the header, before the state word: that they stand in a page which a fault leaves FREE between the two, though R75
says that such a page carries none, is the model's choice (log 30). -/
def State.pageCloseTxs (s : State) (n : StreamId) (p : ClosingPage) : List Tx :=
  closeTxs p.page.addr
    (pageHeader n p.reason (s.page n).serial p.page s.time.tick (trailing p.reason (s.stream n).notes))

/-- The close of the closing page is issued: the page serial rises, and the header is fixed (R87). The page stays the
closing page until the state word write has completed (R78, R88; R89 read so is log 26). -/
def State.issueClose (n : StreamId) (s : State) : State × List Tx :=
  let s1 := s.modPage n (fun pg => { pg with
    serial := pg.serial + 1
    closingPage := pg.closingPage.map (fun p => { p with issued := true }) })
  match (s1.page n).closingPage with
  | some p => (s1, s1.pageCloseTxs n p)
  | none => (s1, [])

/-! ### Records (R83, R84) -/

/-- A page opened at an address (R83). -/
def openedPage (addr openTick : Word) : Page :=
  { addr := addr, used := Config.pageHeaderBytes, count := 0, firstSequence := 0, lastSequence := 0,
    openTick := openTick }

/-- The writes of the queue-head record at the bytes used of the current page (R83). -/
def State.recordWrites (s : State) (n : StreamId) : List Tx :=
  match (s.stream n).queue, (s.page n).current with
  | r :: _, some p =>
    let bytes := r.bytes s.store.buffers
    recordTxs (p.addr + BitVec.ofNat 32 p.used) (pieces bytes.length bytes)
  | _, _ => []

/-- The head of the supply becomes the current page of a stream that has none (R83). -/
def State.openPage (n : StreamId) (openTick : Word) (s : State) : State :=
  match (s.page n).current, (s.page n).supply with
  | none, a :: rest => (s.setSupply n rest).modPage n (fun pg => { pg with current := some (openedPage a openTick) })
  | none, [] | some _, _ => s

/-- A record operation begins (R83): into the current page, or after its FULL close, or into a page opened now. -/
def State.beginRecord (n : StreamId) (s : State) : State :=
  let op := LaneOp.record n s.time.tick
  match (s.page n).current, (s.stream n).queue with
  | some p, r :: _ =>
    if p.hasRoom (s.stream n).config.sizeCode (recordSize r.count) then s.beginOp n op (s.recordWrites n)
    else
      let c := (s.beginPageClose n .full false false).issueClose n
      c.1.beginOp n op c.2
  | none, _ :: _ =>
    let s1 := s.openPage n s.time.tick
    s1.beginOp n op (s1.recordWrites n)
  | _, [] => s

/-- RECORD_OPERATION (R83): a turn of the lane whose work is a record (log 1). -/
def execRecordOperation (s : State) : Host.Outcome State Fault Refusal :=
  match s.laneTurn .record with
  | some n => .next (s.beginRecord n)
  | none => .next s

/-- A page after a record of size r was written into it (R84). -/
def Page.withRecord (sequence : Half) (r : Nat) (p : Page) : Page :=
  { p with
    used := p.used + r
    count := p.count + 1
    firstSequence := if p.count = 0 then sequence else p.firstSequence
    lastSequence := sequence }

/-- The page written, current or closing by now, counts the record (R84, R86). -/
def PageState.countRecord (sequence : Half) (r : Nat) (pg : PageState) : PageState :=
  match pg.current with
  | some p => { pg with current := some (p.withRecord sequence r) }
  | none =>
    { pg with closingPage := pg.closingPage.map (fun c => { c with page := c.page.withRecord sequence r }) }

/-- AGE is armed when the page written is still current, holds its first record, and the age limit is nonzero (R84). -/
def State.armAge (n : StreamId) (s : State) : State :=
  match (s.page n).current with
  | some p =>
    if p.count = 1 ∧ (s.stream n).config.ageLimit ≠ 0 then
      s.arm n .age (s.time.tick + thousands (s.stream n).config.ageLimit)
    else s
  | none => s

/-- The write of a stream's queue-head record has completed (R84). -/
def State.recordWritten (n : StreamId) (s : State) : State :=
  match (s.stream n).queue with
  | [] => s.laneFree
  | r :: rest =>
    let s1 := (s.modStream n (fun st => { st with queue := rest })).freeBuffers r.content.buffers
    let s2 := s1.modPage n (PageState.countRecord r.sequence (recordSize r.count))
    (((s2.armAge n).laneFree).laneDone n).testDrained n

/-- RECORD_WRITE_COMPLETE (R84). -/
def execRecordWriteComplete (s : State) : Host.Outcome State Fault Refusal :=
  match s.inFlight, s.lane.op with
  | some tx, some (.record n _) =>
    if tx.role = .recordPart true then .next ((s.land tx).recordWritten n).advanceStop else .next s
  | _, _ => .next s

/-! ### Closes (R86 to R88) -/

/-- PAGE_CLOSE_ISSUE (R87): a turn of the lane whose work is a close. -/
def execPageCloseIssue (s : State) : Host.Outcome State Fault Refusal :=
  match s.laneTurn .close with
  | some n =>
    let c := s.issueClose n
    .next (c.1.beginOp n (.pageClose n) c.2)
  | none => .next s

/-- The FLUSH PAGE that waits on a close completes (R88, R92). -/
def State.flushDone (n : StreamId) (s : State) : State :=
  match s.walker.activity with
  | .waitFlush ref m => if m = n then s.answer ref .ok 0 else s
  | _ => s

/-- The state word write of a close has completed (R88, items 1 to 4). -/
def State.pageClosed (n : StreamId) (s : State) : State :=
  (((s.modPage n (fun pg => { pg with closingPage := none })).modStream n
    (Stream.tally (fun c => { c with pagesClosed := c.pagesClosed + 1 }))).join (streamIndex n)).raiseIf
      (s.stream n).config.options.notifyPages causePage

/-- The closing page a flush waits on. -/
def PageState.flushWaits (pg : PageState) : Bool :=
  match pg.closingPage with
  | some p => p.flushWaits
  | none => false

/-- The closing sequence goes on after a close: from its first step to its second, or from its second to its return
(R88). -/
def State.closeDone (n : StreamId) (s : State) : State :=
  match (s.stream n).closing with
  | some c =>
    match c.phase with
    | .waitLane => s.closeStep2 n c.reason
    | .waitClose => s.closeStep3 n
    | .returnDue | .returning => s
  | none => s

/-- A close operation of its own has completed: the lane is free and the requester is told (R88). -/
def State.closeFinished (n : StreamId) (s : State) : State :=
  let s1 := (s.pageClosed n).laneFree
  (if (s.page n).flushWaits then s1.flushDone n else s1).closeDone n

/-- The FULL close of a record operation has completed: the operation opens the next page and writes (R83, R88). -/
def State.fullFinished (n : StreamId) (begun : Word) (s : State) : State :=
  let s1 := (s.pageClosed n).openPage n begun
  { s1 with lane := { s1.lane with todo := s1.recordWrites n } }

/-- PAGE_CLOSE_COMPLETE (R88). -/
def execPageCloseComplete (s : State) : Host.Outcome State Fault Refusal :=
  match s.inFlight, s.lane.op with
  | some tx, some (.pageClose n) =>
    if tx.role = .pageState then .next ((s.land tx).closeFinished n).advanceStop else .next s
  | some tx, some (.record n begun) =>
    if tx.role = .pageState then .next ((s.land tx).fullFinished n begun).advanceStop else .next s
  | _, _ => .next s

/-- AGE_EXPIRY (R90): the close of the current page with reason AGE begins. -/
def execAgeExpiry (n : StreamId) (s : State) : Host.Outcome State Fault Refusal :=
  match s.expired n .age with
  | none => .next s
  | some _ => .next ((s.cancel n .age).beginPageClose n .age false false)

/-! ### Returns (R94) -/

/-- RETURN_ISSUE (R94): the supply is emptied, RETURNED is to be written into each of its pages. -/
def execReturnIssue (s : State) : Host.Outcome State Fault Refusal :=
  match s.laneTurn .giveBack with
  | some n =>
    let supply := (s.page n).supply
    let s1 := s.setSupply n []
    let s2 := s1.modStream n (fun st =>
      { st with closing := st.closing.map (fun c => { c with phase := .returning, returned := supply.length }) })
    .next (s2.beginOp n (.giveBack n) (returnTxs supply))
  | none => .next s

/-- The returned count of a stream's closing sequence. -/
def Stream.returnedCount (st : Stream) : Nat :=
  match st.closing with
  | some c => c.returned
  | none => 0

/-- RETURN_COMPLETE (R94): the closing sequence takes its fourth step. -/
def execReturnComplete (s : State) : Host.Outcome State Fault Refusal :=
  match s.inFlight, s.lane.op with
  | some tx, some (.giveBack n) =>
    if tx.role = .pageReturn true then
      .next (((s.land tx).laneFree).closeStep4 n (s.stream n).returnedCount).advanceStop
    else .next s
  | _, _ => .next s

/-! ### Page orders (R77, R92) -/

/-- The stream takes no page or ALTER order: CLOSED, or in its closing sequence (R13, R148 to R150). -/
def Stream.notOpen (st : Stream) : Bool := st.state == .closed || st.closing.isSome

/-- ATTACH_PAGES (R77, R149). -/
def execAttachPages (s : State) : Host.Outcome State Fault Refusal :=
  if s.global.working then
    match s.walker.activity with
    | .request ref (.attachPages n addrs) =>
      if (s.stream n).notOpen then .next (s.answer ref .notOpen 0)
      else
        let appended := addrs.take (Config.supplyRoom - (s.page n).supply.length)
        let code := if appended.length = addrs.length then ResultCode.ok else .somePart
        .next ((s.setSupply n ((s.page n).supply ++ appended)).answer ref code (BitVec.ofNat 32 appended.length))
    | _ => .next s
  else .next s

/-- FLUSH_PAGE (R92, R150). -/
def execFlushPage (s : State) : Host.Outcome State Fault Refusal :=
  if s.global.working then
    match s.walker.activity with
    | .request ref (.flushPage n) =>
      if (s.stream n).notOpen then .next (s.answer ref .notOpen 0)
      else
        match (s.page n).current with
        | some _ => .next ((s.beginPageClose n .flush true false).setActivity (.waitFlush ref n))
        | none => .next (s.answer ref .nothing 0)
    | _ => .next s
  else .next s

end Sys2Proof.Machine
end

