-- ==== Sys2Proof/Machine/OrderWalker.lean ====
section
/-! DEFINITION. The Order Walker (chapter 8): which transaction it issues next, link reads, fetches, outcome writes, held
orders and barriers. The commands LINK_READ_COMPLETE, ORDER_FETCH_COMPLETE, OUTCOME_STATE_WRITE_COMPLETE,
STRAY_ENTRY_WRITE_COMPLETE and BARRIER. -/

namespace Sys2Proof.Machine

open Sys2Proof

/-! ### What the walker issues next (R131, R136, R138) -/

/-- The writes of an outcome begin; TAKEN has no result write (R131). -/
def Walker.beginWrite (w : Walker) (ref : RecordRef) (kind : OutcomeKind) : Option (Tx × Walker) :=
  let o : OutcomeWrite :=
    { ref := ref, kind := kind
      resultDone :=
        match kind with
        | .taken _ => true
        | .final _ _ => false }
  some (o.tx, { w with writing := some o })

/-- The refusal STOPPED (R138). -/
def stoppedResult : Result := { code := .stopped, value := 0 }

/-- The first drain not settled becomes settled. -/
def settleFirst : List HeldDrain → List HeldDrain
  | [] => []
  | h :: rest => if h.settled then h :: settleFirst rest else { h with settled := true } :: rest

/-- Step 2 of the stop sequence issues the refusal of the next held order that is not settled: drains in their order,
then the barrier (R138). The held order is settled here, at the grant of the refusal's first write: that R135's "issues"
is the grant is the model's choice (log 29). -/
def Walker.refuseNext (w : Walker) : Option (Tx × Walker) :=
  match w.held.find? (fun h => !h.settled) with
  | some h =>
    ({ w with held := settleFirst w.held } : Walker).beginWrite h.ref (.final stoppedResult (some (.drain h.stream)))
  | none =>
    match w.heldBarrier with
    | some b =>
      if b.settled then none
      else
        ({ w with heldBarrier := some { b with settled := true } } : Walker).beginWrite b.ref
          (.final stoppedResult (some .barrier))
    | none => none

/-- The transaction of the order being walked, or of step 2 of the stop sequence. -/
def Walker.issueOwn (step2 : Bool) (w : Walker) : Option (Tx × Walker) :=
  match w.activity with
  | .linkRead => some ({ addr := w.cursor, body := .read 4, role := .linkRead }, w)
  | .fetch a => some ({ addr := a, body := .read 64, role := .orderFetch }, w)
  | .strays ref (tx :: rest) count => some (tx, { w with activity := .strays ref rest count })
  | .strays _ [] _ => none
  | .finish ref result => w.beginWrite ref (.final result none)
  | .taken ref source => w.beginWrite ref (.taken source)
  | .idle => if step2 then w.refuseNext else none
  | .request _ _ | .waitClose _ _ | .waitFlush _ _ | .waitTally _ _ => none

/-- The transaction the walker presents: the second write of an outcome begun, then the oldest outcome-list entry if its
TAKEN write has completed, then its own (R136, log 10). -/
def Walker.issue (step2 : Bool) (w : Walker) : Option (Tx × Walker) :=
  match w.writing with
  | some o => some (o.tx, w)
  | none =>
    match w.readyOutcome with
    | some e => ({ w with outcomes := w.outcomes.tail } : Walker).beginWrite e.ref (.final e.result (some e.source))
    | none => w.issueOwn step2

/-! ### Link reads and fetches (R128, R129) -/

/-- The value of a completed link read, in ACTIVE (R128, R132). -/
def State.linkValue (v : Word) (s : State) : State :=
  if v = 0 then
    if s.walker.sweepPending then
      { s with walker := { s.walker with sweepPending := false, activity := .linkRead } }
    else { s with walker := { s.walker with state := .parked, activity := .idle } }
  else if aligned64 v then s.setActivity (.fetch v)
  else s.enterFaulted .badLink s.walker.cursor

/-- LINK_READ_COMPLETE (R128); in STOPPING the value is not acted on (R138). -/
def execLinkReadComplete (v : Word) (s : State) : Host.Outcome State Fault Refusal :=
  match s.inFlight with
  | some tx =>
    if tx.role = .linkRead then
      match s.global with
      | .active => .next ((s.land tx).linkValue v)
      | .stopping _ | .idle | .starting | .faulted => .next ((s.land tx).setActivity .idle).advanceStop
    else .next s
  | none => .next s

/-- A fetched order: BAD STATE, BAD CODE, BAD FIELD, or the request to its owner (R129, R130, R142, R143). -/
def State.orderFetched (addr : Word) (r : BitVec 512) (s : State) : State :=
  let ref := recordRef addr r
  if field8 r 0 ≠ statePosted then s.answer ref .badState ((field8 r 0).zeroExtend 32)
  else
    match checkOrder r with
    | .refuse result => s.setActivity (.finish ref result)
    | .accept order => s.setActivity (.request ref order)

/-- ORDER_FETCH_COMPLETE (R129). -/
def execOrderFetchComplete (r : BitVec 512) (s : State) : Host.Outcome State Fault Refusal :=
  match s.inFlight, s.walker.activity with
  | some tx, .fetch addr => if tx.role = .orderFetch then .next ((s.land tx).orderFetched addr r) else .next s
  | _, _ => .next s

/-- STRAY_ENTRY_WRITE_COMPLETE: the last entry is written, the outcome follows (R123, R155). -/
def execStrayEntryWriteComplete (s : State) : Host.Outcome State Fault Refusal :=
  match s.inFlight, s.walker.activity with
  | some tx, .strays ref _ count =>
    if tx.role = .strayEntry true then .next ((s.land tx).answer ref .ok count) else .next s
  | _, _ => .next s

/-! ### Outcomes (R131, R135, R137) -/

/-- A final state is counted, and raises ORDER with NOTIFY set (R131). -/
def State.countFinal (ref : RecordRef) (result : Result) (s : State) : State :=
  let w := s.walker
  let s1 :=
    if result.code.refuses then s.setWalker { w with ordersRefused := w.ordersRefused + 1 }
    else s.setWalker { w with ordersDone := w.ordersDone + 1 }
  s1.markDevice.raiseIf ref.notify causeOrder

/-- The walker moves on to a record's link word, and reads it unless the part is stopping (R131, R138, log 15). -/
def State.moveOn (ref : RecordRef) (s : State) : State :=
  { s with walker := { s.walker with
      cursor := ref.linkAddr
      activity := if s.global = .active then .linkRead else .idle } }

/-- A held drain leaves the held-order list; in ACTIVE an emptied list completes the held barrier (R135, R137). -/
def State.drainGone (n : StreamId) (s : State) : State :=
  let left := s.walker.held.filter (fun h => !(h.stream == n && h.settled))
  let s1 := s.setWalker { s.walker with held := left }
  match left, s.global, s.walker.heldBarrier with
  | [], .active, some b =>
    if b.settled then s1
    else
      s1.setWalker { s1.walker with
        heldBarrier := some { b with settled := true }
        outcomes := s1.walker.outcomes ++
          [{ ref := b.ref, result := { code := .ok, value := 0 }, source := .barrier }] }
  | _, _, _ => s1

/-- The held barrier is done: in ACTIVE the walker reads on from its record (R137). -/
def State.barrierGone (ref : RecordRef) (s : State) : State :=
  let s1 := s.setWalker { s.walker with heldBarrier := none }
  if s.global = .active then (s1.setWalker { s1.walker with state := .walking }).moveOn ref else s1

/-- The TAKEN write of a held order has completed: the walker moves on, but for a BARRIER, with which it waits
(R131, R135, R137, log 15). -/
def State.takenDone (ref : RecordRef) (source : HeldKind) (s : State) : State :=
  match source with
  | .drain n =>
    (s.setWalker { s.walker with
      held := s.walker.held.map (fun h => if h.stream = n ∧ h.ref = ref then { h with takenWritten := true } else h) }).moveOn
        ref
  | .barrier =>
    s.setWalker { s.walker with
      heldBarrier := s.walker.heldBarrier.map (fun b => { b with takenWritten := true })
      state := .barrierWait, cursor := ref.linkAddr, activity := .idle }

/-- The state write of an outcome has completed (R131). -/
def State.outcomeWritten (o : OutcomeWrite) (s : State) : State :=
  let s1 := s.setWalker { s.walker with writing := none }
  match o.kind with
  | .taken source => s1.takenDone o.ref source
  | .final result none => (s1.countFinal o.ref result).moveOn o.ref
  | .final result (some (.drain n)) => (s1.countFinal o.ref result).drainGone n
  | .final result (some .barrier) => (s1.countFinal o.ref result).barrierGone o.ref

/-- OUTCOME_STATE_WRITE_COMPLETE (R131). -/
def execOutcomeStateWriteComplete (s : State) : Host.Outcome State Fault Refusal :=
  match s.inFlight, s.walker.writing with
  | some tx, some o =>
    match tx.role with
    | .outcomeState _ => .next ((s.land tx).outcomeWritten o).advanceStop
    | _ => .next s
  | _, _ => .next s

/-- BARRIER (R137, R156): done at once when no drain is held, else held and written TAKEN. -/
def execBarrier (s : State) : Host.Outcome State Fault Refusal :=
  if s.global.working then
    match s.walker.activity with
    | .request ref .barrier =>
      if s.walker.held.isEmpty then .next (s.answer ref .ok 0)
      else
        .next (s.setWalker { s.walker with
          heldBarrier := some { ref := ref, takenWritten := false, settled := false }
          activity := .taken ref .barrier })
    | _ => .next s
  else .next s

end Sys2Proof.Machine
end

