-- ==== Sys2Proof/Machine/StreamOrders.lean ====
section
/-! DEFINITION. The stream orders (chapter 9, section 9.3): OPEN_STREAM, DRAIN_CLOSE, IMMEDIATE_CLOSE, ALTER_STREAM. The
stream state and room checks and the effect are one event at the owner (R141, R144). -/

namespace Sys2Proof.Machine

open Sys2Proof

/-- A BUSY refusal carries the code of the stream's state (R144). -/
def State.answerBusy (ref : RecordRef) (n : StreamId) (s : State) : State :=
  s.answer ref .busy ((s.stream n).state.code.zeroExtend 32)

/-! ### OPEN STREAM (R6, R17, R146) -/

/-- The Burst Store grants a reservation (R17). -/
def State.roomFor (s : State) (c : StreamConfig) : Bool := decide (s.store.reserved + (c.w + c.q) ≤ Config.bufferCount)

/-- A stream set up by OPEN STREAM (R6); counters, minimum margin and changed flag are kept (log 28). -/
def Stream.opened (c : StreamConfig) (st : Stream) : Stream :=
  { st with
    state := .acquiring, config := c, head := 0, headDeadline := 0, anchoredOnce := false, fillsInRow := 0, earlyRun := 0,
    notes := .clear, repeatStore := [], window := List.replicate c.w none, queue := [], closing := none }

/-- The set-up of an accepted OPEN STREAM (R6). -/
def State.openStream (n : StreamId) (c : StreamConfig) (s : State) : State :=
  let s1 := { s with store := { s.store with reserved := s.store.reserved + (c.w + c.q) } }
  let s2 := (s1.modStream n (Stream.opened c)).setPage n .reset
  (s2.join (streamIndex n)).armSilence n s.time.tick

/-- OPEN_STREAM (R146). -/
def execOpenStream (s : State) : Host.Outcome State Fault Refusal :=
  if s.global.working then
    match s.walker.activity with
    | .request ref (.openStream n c) =>
      if (s.stream n).state ≠ .closed ∨ (s.stream n).closing ≠ none then .next (s.answerBusy ref n)
      else if s.roomFor c then .next ((s.openStream n c).answer ref .ok 0)
      else .next (s.answer ref .noRoom 0)
    | _ => .next s
  else .next s

/-! ### CLOSE STREAM (R9, R11, R14, R147) -/

/-- An accepted drain close (R9): the order is held, the stream is DRAINING, and its closing sequence may begin at once
(R10). -/
def State.drainClose (ref : RecordRef) (n : StreamId) (s : State) : State :=
  let s1 := s.setWalker { s.walker with
    held := s.walker.held ++ [{ ref := ref, stream := n, takenWritten := false, settled := false }]
    activity := .taken ref (.drain n) }
  let s2 := s1.cancel n .silence
  let s3 := if windowEmpty (s.stream n).window then s2.cancel n .head else s2
  (s3.changeState n .draining).testDrained n

/-- DRAIN_CLOSE (R147). -/
def execDrainClose (s : State) : Host.Outcome State Fault Refusal :=
  if s.global.working then
    match s.walker.activity with
    | .request ref (.closeStream n true) =>
      match (s.stream n).state with
      | .closed => .next (s.answer ref .notOpen 0)
      | .draining => .next (s.answerBusy ref n)
      | .acquiring | .running | .stalled | .cut => .next (s.drainClose ref n)
    | _ => .next s
  else .next s

/-- IMMEDIATE_CLOSE (R11, R14, R147): the order stays in progress until the closing sequence ends. -/
def execImmediateClose (s : State) : Host.Outcome State Fault Refusal :=
  if s.global.working then
    match s.walker.activity with
    | .request ref (.closeStream n false) =>
      if (s.stream n).state = .closed then .next (s.answer ref .notOpen 0)
      else if (s.stream n).closing ≠ none then .next (s.answerBusy ref n)
      else .next ((s.setActivity (.waitClose ref n)).closeNow n .close)
    | _ => .next s
  else .next s

/-! ### ALTER STREAM (R7, R148) -/

/-- The configuration with the selected fields replaced (R7). -/
def StreamConfig.altered (a : Alteration) (c : StreamConfig) : StreamConfig :=
  { c with
    fillPolicy := a.fillPolicy.getD c.fillPolicy
    fillWord := a.fillWord.getD c.fillWord
    f := a.f.getD c.f
    k := a.k.getD c.k
    silence := a.silence.getD c.silence
    ageLimit := a.ageLimit.getD c.ageLimit
    options := a.options.getD c.options }

/-- SILENCE is measured in these states (R7). -/
def StreamState.silenceRuns : StreamState → Bool
  | .acquiring | .running | .stalled => true
  | .closed | .cut | .draining => false

/-- A new silence period arms or cancels SILENCE in ACQUIRING, RUNNING and STALLED (R7). -/
def State.alterSilence (n : StreamId) (v : Half) (s : State) : State :=
  if (s.stream n).state.silenceRuns then
    if v = 0 then s.cancel n .silence else s.arm n .silence (s.time.tick + thousands v)
  else s

/-- The current page holds at least one record. -/
def PageState.holdsRecord (pg : PageState) : Bool :=
  match pg.current with
  | some p => decide (1 ≤ p.count)
  | none => false

/-- A new page age limit arms or cancels AGE when the current page holds a record (R7). -/
def State.alterAge (n : StreamId) (v : Half) (s : State) : State :=
  if (s.page n).holdsRecord then
    if v = 0 then s.cancel n .age else s.arm n .age (s.time.tick + thousands v)
  else s

/-- An accepted ALTER STREAM (R7). -/
def State.alterStream (n : StreamId) (a : Alteration) (s : State) : State :=
  let s1 := s.modStream n (fun st => { st with config := st.config.altered a })
  let s2 :=
    match a.silence with
    | some v => s1.alterSilence n v
    | none => s1
  match a.ageLimit with
  | some v => s2.alterAge n v
  | none => s2

/-- ALTER_STREAM (R148). -/
def execAlterStream (s : State) : Host.Outcome State Fault Refusal :=
  if s.global.working then
    match s.walker.activity with
    | .request ref (.alterStream n a) =>
      if (s.stream n).notOpen then .next (s.answer ref .notOpen 0)
      else .next ((s.alterStream n a).answer ref .ok 0)
    | _ => .next s
  else .next s

end Sys2Proof.Machine
end

