-- ==== Sys2Proof/Machine/TallyWriter.lean ====
section
/-! DEFINITION. The Tally Writer (chapter 10): snapshots, their writes, and the commands TALLY_SNAPSHOT,
TALLY_WRITE_COMPLETE and WRITE_TALLY. -/

namespace Sys2Proof.Machine

open Sys2Proof

/-- The address of a tally record (R158). -/
def tallyAddr (base : Word) (i : Fin 65) : Word := base + BitVec.ofNat 32 (64 * i.val)

/-- The body of a record, bytes 4 to 63, as the values stand (R159, R160). -/
def State.tallyBody (s : State) (i : Fin 65) : List Byte :=
  if h : i.val < 64 then streamTallyBody (s.stream ⟨i.val, h⟩) (s.page ⟨i.val, h⟩).supply.length
  else deviceTallyBody s.rxA s.rxB s.acceptance.counters s.walker

/-- A stream after its snapshot: flag cleared, minimum margin reset; with a zero mark the counters are 0, and the flag is
set again if any was nonzero (R161, R20, R21). -/
def Stream.snapped (zero : Bool) (st : Stream) : Stream :=
  { st with
    counters := if zero then .zero else st.counters
    minMargin := Config.noMargin
    changed := zero && decide (st.counters ≠ StreamCounters.zero) }

/-- A counter the device record carries is nonzero (R160, R161). -/
def State.deviceCounted (s : State) : Bool :=
  decide (s.rxA.counters ≠ LinkCounters.zero) || decide (s.rxB.counters ≠ LinkCounters.zero)
    || decide (s.acceptance.counters ≠ AcceptanceCounters.zero) || s.walker.ordersDone != 0
    || s.walker.ordersRefused != 0

/-- The device counters set to 0 (R161, R108, R125, R140). -/
def State.zeroDevice (s : State) : State :=
  { s with
    rxA := { s.rxA with counters := .zero }
    rxB := { s.rxB with counters := .zero }
    acceptance := { s.acceptance with counters := .zero }
    walker := { s.walker with ordersDone := 0, ordersRefused := 0 } }

/-- The owner's side of a snapshot (R161, steps 3 to 5). -/
def State.snapRecord (i : Fin 65) (zero : Bool) (s : State) : State :=
  if h : i.val < 64 then s.modStream ⟨i.val, h⟩ (Stream.snapped zero)
  else
    let s1 := { s with tally := { s.tally with deviceChanged := zero && s.deviceCounted } }
    if zero then s1.zeroDevice else s1

/-- A write begins with its snapshot (R161): the record leaves the set, its serial becomes odd, and its three
transactions are to be issued. -/
def State.beginTally (i : Fin 65) (m : Marks) (s : State) : State :=
  let body := s.tallyBody i
  let serial := s.tally.serials[i]
  let s1 := s.snapRecord i m.zero
  { s1 with tally := { s1.tally with
      pending := s1.tally.pending.set i.val none i.isLt
      serials := s1.tally.serials.set i.val (serial + 1) i.isLt
      last := i
      write := some
        { index := i, orderMark := m.order, todo := tallyTxs (tallyAddr s.tally.base i) serial body } } }

/-- The first member after the last record written (R164). -/
def Tally.next (t : Tally) : Option (Fin 65 × Marks) :=
  (rotation 65 t.last).findSome? (fun i => (t.pending[i]).map (fun m => (i, m)))

/-- TALLY_SNAPSHOT (R161, R164): with no write in flight and the set not empty (log 1). -/
def execTallySnapshot (s : State) : Host.Outcome State Fault Refusal :=
  if s.global.working = true ∧ s.tally.write = none then
    match s.tally.next with
    | some (i, m) => .next (s.beginTally i m)
    | none => .next s
  else .next s

/-- No member bears the order mark. -/
def Tally.noOrderMark (t : Tally) : Bool :=
  t.pending.all (fun m =>
    match m with
    | some x => !x.order
    | none => true)

/-- A WRITE TALLY whose last marked write has completed is reported (R165). -/
def State.tallyOrderDone (w : TallyWrite) (s : State) : State :=
  match s.walker.activity with
  | .waitTally ref count => if w.orderMark && s.tally.noOrderMark then s.answer ref .ok count else s
  | _ => s

/-- TALLY_WRITE_COMPLETE (R161): the serial is even again, the write is complete. -/
def execTallyWriteComplete (s : State) : Host.Outcome State Fault Refusal :=
  match s.inFlight, s.tally.write with
  | some tx, some w =>
    if tx.role = .tallyEven then
      let s1 := s.land tx
      let s2 := { s1 with tally := { s1.tally with
        serials := s1.tally.serials.set w.index.val (s1.tally.serials[w.index] + 1) w.index.isLt
        write := none } }
      .next (s2.tallyOrderDone w).advanceStop
    else .next s
  | _, _ => .next s

/-- The target names a record (R154). -/
def TallyTarget.names (t : TallyTarget) (i : Fin 65) : Bool :=
  match t with
  | .one j => i == j
  | .all => true

/-- How many records the target names (R154). -/
def TallyTarget.count : TallyTarget → Word
  | .one _ => 1
  | .all => 65

/-- A member after WRITE TALLY names it: the order mark, and the zero mark if asked or already set (R165). -/
def marked (zero : Bool) (m : Option Marks) : Option Marks :=
  match m with
  | some x => some { zero := x.zero || zero, order := true }
  | none => some { zero := zero, order := true }

/-- WRITE_TALLY (R154, R165). -/
def execWriteTally (s : State) : Host.Outcome State Fault Refusal :=
  if s.global.working then
    match s.walker.activity with
    | .request ref (.writeTally target zero) =>
      let s1 := { s with tally := { s.tally with
        pending := Vector.ofFn (fun i =>
          if target.names i then marked zero s.tally.pending[i] else s.tally.pending[i]) } }
      .next (s1.setActivity (.waitTally ref target.count))
    | _ => .next s
  else .next s

end Sys2Proof.Machine
end

