-- ==== Sys2Proof/Machine/MemoryPort.lean ====
section
/-! DEFINITION. The Memory Port (chapter 11, section 11.6): grants, responses, errors and timeouts. The commands
ROOT_READ_COMPLETE, MEMORY_GRANT, MEMORY_RESPONSE, BUS_ERROR and BUS_TIMEOUT. -/

namespace Sys2Proof.Machine

open Sys2Proof

/-- ROOT_READ_COMPLETE (R173, R174). -/
def execRootReadComplete (r : BitVec 256) (s : State) : Host.Outcome State Fault Refusal :=
  match s.global, s.port.flight with
  | .starting, some f =>
    if f.tx.role = .rootRead then
      let s1 := s.land f.tx
      if rootValid r then
        .next (s1.enterActive (rootDivider r) (rootSweep r) (rootTallyInterval r) (rootTally r))
      else .next (s1.enterFaulted .root s.root)
    else .next s
  | _, _ => .next s

/-! ### Grants (R179) -/

/-- The order in which the requesters are looked at, after the last granted. -/
def Requester.after : Requester → List Requester
  | .walker => [.delivery, .tally, .walker]
  | .delivery => [.tally, .walker, .delivery]
  | .tally => [.walker, .delivery, .tally]

/-- The transaction a requester presents, and the state once it is granted (R179, log 10). -/
def State.present (s : State) (r : Requester) : Option (Tx × State) :=
  match r with
  | .walker =>
    match s.walker.issue (s.global == .stopping .held) with
    | some (tx, w) => some (tx, s.setWalker w)
    | none => none
  | .delivery =>
    match s.lane.todo with
    | tx :: rest => some (tx, { s with lane := { s.lane with todo := rest } })
    | [] => none
  | .tally =>
    match s.tally.write with
    | some w =>
      match w.todo with
      | tx :: rest => some (tx, { s with tally := { s.tally with write := some { w with todo := rest } } })
      | [] => none
    | none => none

/-- The first requester in an order that presents a transaction. -/
def State.firstPresent (s : State) : List Requester → Option (Requester × Tx × State)
  | [] => none
  | r :: rest =>
    match s.present r with
    | some (tx, t) => some (r, tx, t)
    | none => s.firstPresent rest

/-- MEMORY_GRANT (R179): the port is free and some requester presents a transaction (log 1). -/
def execMemoryGrant (s : State) : Host.Outcome State Fault Refusal :=
  if s.global.working = true ∧ s.port.flight = none then
    match s.firstPresent s.port.lastGranted.after with
    | some (r, tx, t) => .next { t with port := { flight := some { tx := tx, periods := 0 }, lastGranted := r } }
    | none => .next s
  else .next s

/-! ### Responses (R179, R180) -/

/-- A transaction whose completion is no event of a row of its own: more of its operation follows. -/
def TxRole.intermediate : TxRole → Bool
  | .outcomeResult | .strayEntry false | .recordPart false | .pageHeader | .pageReturn false | .tallyOdd
  | .tallyBody => true
  | .rootRead | .linkRead | .orderFetch | .outcomeState _ | .strayEntry true | .recordPart true | .pageState
  | .pageReturn true | .tallyEven => false

/-- The result write of an outcome is done: the state write is next (R131). -/
def Walker.resultWritten (w : Walker) : Walker :=
  { w with writing := w.writing.map (fun o => { o with resultDone := true }) }

/-- MEMORY_RESPONSE (R179). -/
def execMemoryResponse (s : State) : Host.Outcome State Fault Refusal :=
  match s.inFlight with
  | some tx =>
    if tx.role.intermediate then
      let s1 := s.land tx
      if tx.role = .outcomeResult then .next (s1.setWalker s1.walker.resultWritten) else .next s1
    else .next s
  | none => .next s

/-- A transaction can fail in STARTING, ACTIVE and STOPPING (R176). -/
def GlobalState.canFault : GlobalState → Bool
  | .starting | .active | .stopping _ => true
  | .idle | .faulted => false

/-- The transaction in flight fails: FAULTED with a reason and its first byte address (R180). -/
def State.flightFails (reason : FaultReason) (s : State) : State :=
  if s.global.canFault then
    match s.port.flight with
    | some f => s.enterFaulted reason f.tx.addr
    | none => s
  else s

/-- BUS_ERROR (R180). -/
def execBusError (s : State) : Host.Outcome State Fault Refusal := .next (s.flightFails .busError)

/-- BUS_TIMEOUT (R180): the event, whatever the model's count (log 3). -/
def execBusTimeout (s : State) : Host.Outcome State Fault Refusal := .next (s.flightFails .busTimeout)

end Sys2Proof.Machine
end

