-- ==== Sys2Proof/Machine/TimeUnit.lean ====
section
/-! DEFINITION. The Time Base (chapter 3): ticks, the device timers, and one reference clock period. The commands TICK,
SWEEP_TIMER_EXPIRY and TALLY_TIMER_EXPIRY. -/

namespace Sys2Proof.Machine

open Sys2Proof

/-- A tick: the divider count is 0 again and the tick counter is incremented (R41, R42). -/
def State.tickOver (s : State) : State := { s with time := { s.time with tick := s.time.tick + 1, divCount := 0 } }

/-- TICK (R42): the event, whatever the model's count (log 3); ticks are counted in ACTIVE and STOPPING (R41). -/
def execTick (s : State) : Host.Outcome State Fault Refusal :=
  if s.global.working then .next s.tickOver else .next s

/-! ### The device timers (R52, R53) -/

/-- The timer is due (R43). -/
def Timer.expired (t : Timer) (tick : Word) : Bool := t.armed && reached tick t.due

/-- The timer re-arms itself at its previous due tick plus its interval. -/
def Timer.rearmed (t : Timer) : Timer := { t with due := t.due + thousands t.interval }

/-- SWEEP_TIMER_EXPIRY (R52): a nudge. -/
def execSweepTimerExpiry (s : State) : Host.Outcome State Fault Refusal :=
  if s.global.working = true ∧ s.time.sweep.expired s.time.tick = true then
    .next ({ s with time := { s.time with sweep := s.time.sweep.rearmed } } : State).nudge
  else .next s

/-- TALLY_TIMER_EXPIRY (R53): every changed record joins the tally-pending set. -/
def execTallyTimerExpiry (s : State) : Host.Outcome State Fault Refusal :=
  if s.global.working = true ∧ s.time.tally.expired s.time.tick = true then
    .next ({ s with time := { s.time with tally := s.time.tally.rearmed } } : State).joinChanged
  else .next s

/-! ### One reference clock period (log 2): what a step does when no command waits -/

/-- The divider count (R42). -/
def State.countDivider (s : State) : State :=
  if s.global.working then
    if s.time.divider ≤ s.time.divCount + 1 then s.tickOver
    else { s with time := { s.time with divCount := s.time.divCount + 1 } }
  else s

/-- The line-loss count of a link (R98). -/
def State.countLine (l : LinkId) (s : State) : State :=
  if s.global.working = true ∧ (s.rx l).state ≠ .off then
    if (s.rx l).symbolTaken then s.setRx l { s.rx l with symbolTaken := false }
    else if Config.lineLossPeriods ≤ (s.rx l).lossCount + 1 then s.lineLoss l
    else s.setRx l { s.rx l with lossCount := (s.rx l).lossCount + 1 }
  else s

/-- The response count reaches 65,536 at the end of this period (R180). -/
def State.timeoutNow (s : State) : Bool :=
  match s.port.flight with
  | some f => decide (Config.timeoutPeriods ≤ f.periods + 1)
  | none => false

/-- The response count (R180). -/
def State.countResponse (s : State) : State :=
  { s with port := { s.port with flight := s.port.flight.map (fun f => { f with periods := f.periods + 1 }) } }

/-- The end of one reference clock period: divider count, line-loss counts, response count. Where a timeout falls into
it, a free value decides whether the timeout is taken before or after the others (log 4). -/
def State.clockPeriod (s : State) : State :=
  if s.timeoutNow then
    let s1 := { s with freeCount := s.freeCount + 1 }
    if Config.timeoutFirst s.freeCount then s1.flightFails .busTimeout
    else (((s1.countDivider).countLine .a).countLine .b).flightFails .busTimeout
  else (((s.countDivider).countLine .a).countLine .b).countResponse

end Sys2Proof.Machine
end

