-- ==== Sys2Proof/Machine/Dispatch.lean ====
section
/-! DEFINITION. One arm for each command: the command's meaning. -/

namespace Sys2Proof.Machine

open Sys2Proof

def exec (i : Instr) (s : State) : Host.Outcome State Fault Refusal :=
  match i with
  -- register window
  | .run value => Sys2Proof.Machine.execRun value s
  | .nudge value => Sys2Proof.Machine.execNudge value s
  | .srst value => Sys2Proof.Machine.execSrst value s
  | .causeClear value => Sys2Proof.Machine.execCauseClear value s
  | .enableWrite value => Sys2Proof.Machine.execEnableWrite value s
  | .rootWrite value => Sys2Proof.Machine.execRootWrite value s
  | .registerWriteIgnored offset size value => Sys2Proof.Machine.execRegisterWriteIgnored offset size value s
  -- reset pin
  | .pinReset => Sys2Proof.Machine.execPinReset s
  | .pinResetRelease => Sys2Proof.Machine.execPinResetRelease s
  -- memory port
  | .rootReadComplete record => Sys2Proof.Machine.execRootReadComplete record s
  | .memoryGrant => Sys2Proof.Machine.execMemoryGrant s
  | .memoryResponse => Sys2Proof.Machine.execMemoryResponse s
  | .busError => Sys2Proof.Machine.execBusError s
  | .busTimeout => Sys2Proof.Machine.execBusTimeout s
  -- time
  | .tick => Sys2Proof.Machine.execTick s
  | .headExpiry stream => Sys2Proof.Machine.execHeadExpiry stream s
  | .silenceExpiry stream => Sys2Proof.Machine.execSilenceExpiry stream s
  | .ageExpiry stream => Sys2Proof.Machine.execAgeExpiry stream s
  | .sweepTimerExpiry => Sys2Proof.Machine.execSweepTimerExpiry s
  | .tallyTimerExpiry => Sys2Proof.Machine.execTallyTimerExpiry s
  -- line symbols
  | .idleSymbol link => Sys2Proof.Machine.execIdleSymbol link s
  | .startSymbol link => Sys2Proof.Machine.execStartSymbol link s
  | .dataSymbol link value => Sys2Proof.Machine.execDataSymbol link value s
  | .endSymbol link => Sys2Proof.Machine.execEndSymbol link s
  | .violationSymbol link => Sys2Proof.Machine.execViolationSymbol link s
  | .lineLoss link => Sys2Proof.Machine.execLineLoss link s
  -- acceptance
  | .take => Sys2Proof.Machine.execTake s
  | .offer => Sys2Proof.Machine.execOffer s
  -- orders
  | .orderFetchComplete record => Sys2Proof.Machine.execOrderFetchComplete record s
  | .openStream => Sys2Proof.Machine.execOpenStream s
  | .drainClose => Sys2Proof.Machine.execDrainClose s
  | .immediateClose => Sys2Proof.Machine.execImmediateClose s
  | .alterStream => Sys2Proof.Machine.execAlterStream s
  | .attachPages => Sys2Proof.Machine.execAttachPages s
  | .flushPage => Sys2Proof.Machine.execFlushPage s
  | .setRoute => Sys2Proof.Machine.execSetRoute s
  | .clearRoute => Sys2Proof.Machine.execClearRoute s
  | .setLink => Sys2Proof.Machine.execSetLink s
  | .writeTally => Sys2Proof.Machine.execWriteTally s
  | .readStrays => Sys2Proof.Machine.execReadStrays s
  | .barrier => Sys2Proof.Machine.execBarrier s
  | .linkReadComplete value => Sys2Proof.Machine.execLinkReadComplete value s
  | .outcomeStateWriteComplete => Sys2Proof.Machine.execOutcomeStateWriteComplete s
  | .strayEntryWriteComplete => Sys2Proof.Machine.execStrayEntryWriteComplete s
  -- write lane
  | .recordOperation => Sys2Proof.Machine.execRecordOperation s
  | .recordWriteComplete => Sys2Proof.Machine.execRecordWriteComplete s
  | .pageCloseIssue => Sys2Proof.Machine.execPageCloseIssue s
  | .pageCloseComplete => Sys2Proof.Machine.execPageCloseComplete s
  | .returnIssue => Sys2Proof.Machine.execReturnIssue s
  | .returnComplete => Sys2Proof.Machine.execReturnComplete s
  -- tally writer
  | .tallySnapshot => Sys2Proof.Machine.execTallySnapshot s
  | .tallyWriteComplete => Sys2Proof.Machine.execTallyWriteComplete s

end Sys2Proof.Machine
end

