-- ==== Sys2Proof/Machine/Step.lean ====
section
/-! DEFINITION. One step of the block: the command at the front of its queue, or one reference clock period. -/

namespace Sys2Proof.Machine

open Sys2Proof

/-- Takes the command at the front of the queue and runs it on the rest; on an empty queue one reference clock period
passes (log 2). -/
def step (s : State) : Host.Outcome State Fault Refusal :=
  match s.pending with
  | [] => .next s.clockPeriod
  | c :: rest => exec c { s with pending := rest }

/-- s with the command that a table word spells at the front of its queue; s when the word spells none (log 25). -/
def State.withFetchWord (s : State) (nbits w : Nat) : State :=
  match decodeTableWord nbits w with
  | some c => { s with pending := c :: s.pending }
  | none => s

end Sys2Proof.Machine
end

