-- ==== Sys2Proof/Safety.lean ====
section
/-! DEFINITION. What it means that the part is in order: the laws the manual states over every state (R44, R76, R77, R104,
R115, R120), what a step may answer, and which bytes of memory a transaction touches. -/

namespace Sys2Proof.Machine

open Sys2Proof

/-- A command completes: the machine answers a next state. -/
def Completes (c : Instr) (s : State) : Prop := ∃ t, exec c s = .next t

/-- A property that every step keeps. -/
def StepKeeps (inv : State → Prop) : Prop := ∀ s t, inv s → step s = .next t → inv t

/-- Two deadline entries are for the same stream and kind. -/
def Deadline.sameKey (a b : Deadline) : Prop := a.stream = b.stream ∧ a.kind = b.kind

/-- The Deadline Queue holds at most one entry for each pair of stream and kind (R44). -/
def State.deadlinesUnique (s : State) : Prop := s.time.deadlines.Pairwise (fun a b => ¬ a.sameKey b)

/-- The list of written bytes keeps its canonical form. -/
def State.memoryCanonical (s : State) : Prop := Memory.wf s.sysMem = true

/-- The Stray List never holds more than 8 entries (R120). -/
def State.straysBounded (s : State) : Prop := s.acceptance.strays.length ≤ 8

/-- The page supply of a stream never holds more than 16 addresses (R77). -/
def State.supplyBounded (s : State) : Prop := ∀ n, (s.page n).supply.length ≤ 16

/-- A delivery queue never holds more than Q records (R76). -/
def State.queueBounded (s : State) : Prop := ∀ n, (s.stream n).queue.length ≤ (s.stream n).config.q

/-- No two valid Route Table entries carry the same origin tag (R115). -/
def State.routesUnique (s : State) : Prop :=
  ∀ (i j : Fin 64) (a b : Route),
    s.acceptance.routes[i] = some a → s.acceptance.routes[j] = some b → a.tag = b.tag → i = j

/-- A receiver's runs stay below eight (R100, R101), it assembles at most 142 bytes (R104), none outside a frame (R103),
and in a frame its check register is the one computed over the bytes assembled (R181). -/
def Receiver.bounded (r : Receiver) : Prop :=
  r.idleRun < 8 ∧ r.violationRun < 8 ∧ r.bytes.length ≤ 142 ∧ (r.assembly ≠ .inFrame → r.bytes = [])
    ∧ (r.assembly = .inFrame → r.check = crcRegister r.bytes)

/-- Both receivers are within their bounds. -/
def State.linksBounded (s : State) : Prop := s.rxA.bounded ∧ s.rxB.bounded

/-- The early run of every stream is 0 to 15 (R3). -/
def State.earlyRunBounded (s : State) : Prop := ∀ n, (s.stream n).earlyRun ≤ 15

/-- In IDLE every block is at its reset values, and in STARTING every block but the Memory Port, which reads the root
record and was last granted to the Tally Writer (R138, R173, R175, R177, R179; log 9). -/
def State.restsOutsideWork (s : State) : Prop :=
  (s.global = .idle → s = s.resetBlocks)
    ∧ (s.global = .starting → ∃ k, s = { s.resetBlocks with port :=
        { flight := some { tx := { addr := s.root, body := .read 32, role := .rootRead }, periods := k }
          lastGranted := .tally } })

/-! ### The laws of streams, windows, deadlines and buffers

The manual states them one by one; a step keeps each of them because the others hold before it. -/

/-- W and Q are in their ranges (R1). -/
def StreamConfig.sized (c : StreamConfig) : Prop := 2 ≤ c.w ∧ c.w ≤ 16 ∧ 1 ≤ c.q ∧ c.q ≤ 8

/-- The reorder windows (R24, with R1 and R5): W slots; each held burst stands in the slot of its offset from head; bursts
are held in RUNNING and DRAINING only. -/
structure State.windowLaw (s : State) : Prop where
  slots : ∀ n, (s.stream n).window.length = (s.stream n).config.w
  sized : ∀ n, (s.stream n).state ≠ .closed → (s.stream n).config.sized
  requestSized : ∀ ref n c, s.walker.activity = .request ref (.openStream n c) → c.sized
  placed : ∀ n (o : Nat) b, (s.stream n).window[o]? = some (some b) → (s.stream n).offset b.sequence = o
  held : ∀ n b, some b ∈ (s.stream n).window → (s.stream n).state = .running ∨ (s.stream n).state = .draining

/-- Closing sequences and pages (R12, R13, R78, R86, R94): what a CLOSED stream holds, what a closing one does, that a
return in the lane is the sequence's return, and that a stream has not both a current and a closing page. -/
structure State.closingLaw (s : State) : Prop where
  closed : ∀ n, (s.stream n).state = .closed →
    (s.stream n).closing = none ∧ (s.stream n).queue = [] ∧ (s.page n).supply = [] ∧ (s.page n).current = none
      ∧ (s.page n).closingPage = none ∧ s.recordInFlight n = false
  draining : ∀ n c, (s.stream n).closing = some c → (s.stream n).state = .draining ∧ ∀ x ∈ (s.stream n).window, x = none
  waitLane : ∀ n c, (s.stream n).closing = some c → c.phase = .waitLane →
    (s.stream n).queue = [] ∨ ((s.stream n).queue.length = 1 ∧ s.recordInFlight n = true)
  later : ∀ n c, (s.stream n).closing = some c → c.phase ≠ .waitLane →
    (s.stream n).queue = [] ∧ (s.page n).current = none ∧ s.recordInFlight n = false
  returns : ∀ n c, (s.stream n).closing = some c → c.phase = .returnDue ∨ c.phase = .returning →
    (s.page n).closingPage = none ∧ (c.phase = .returning → (s.page n).supply = [])
  giveBack : ∀ n, s.lane.op = some (.giveBack n) → ∃ c, (s.stream n).closing = some c ∧ c.phase = .returning
  onePage : ∀ n, (s.page n).current = none ∨ (s.page n).closingPage = none

/-- The Deadline Queue (R44, R50): at most one entry for a stream and kind; a HEAD entry, with the head deadline as its
due tick, exactly in RUNNING and in DRAINING with a burst held; a SILENCE entry exactly in ACQUIRING, RUNNING and STALLED
with a nonzero silence period; an AGE entry exactly when the current page holds a record and the age limit is nonzero. -/
structure State.deadlineLaw (s : State) : Prop where
  unique : s.deadlinesUnique
  head : ∀ n due, s.deadline n .head = some due ↔
    ((s.stream n).state = .running ∨ ((s.stream n).state = .draining ∧ ∃ b, some b ∈ (s.stream n).window))
      ∧ due = (s.stream n).headDeadline
  silence : ∀ n, (∃ due, s.deadline n .silence = some due) ↔
    ((s.stream n).state = .acquiring ∨ (s.stream n).state = .running ∨ (s.stream n).state = .stalled)
      ∧ (s.stream n).config.silence ≠ 0
  age : ∀ n, (∃ due, s.deadline n .age = some due) ↔
    (∃ p, (s.page n).current = some p ∧ 1 ≤ p.count) ∧ (s.stream n).config.ageLimit ≠ 0

/-- The buffers a stream holds: those of its window's slots, then those of its queue's records (R4, R16). -/
def Stream.heldBuffers (st : Stream) : List BufferId :=
  (st.window.filterMap id).map (fun b => b.buffer) ++ st.queue.flatMap (fun r => r.content.buffers)

/-- The buffers reserved for a stream: W + Q, none when it is CLOSED (R17). -/
def Stream.reservation (st : Stream) : Nat := if st.state = .closed then 0 else st.config.w + st.config.q

/-- The Burst Store (R16, R17, R19): every buffer is exactly once in the pool or held by a stream; a stream holds at most
W + Q; the reservation total is the sum of the reservations, and at most 512. -/
structure State.storeLaw (s : State) : Prop where
  buffers : (s.store.pool ++ (List.finRange 64).flatMap (fun n => (s.stream n).heldBuffers)).Perm (List.finRange 512)
  queues : s.queueBounded
  bounded : ∀ n, (s.stream n).heldBuffers.length ≤ (s.stream n).config.w + (s.stream n).config.q
  reserved : s.store.reserved = ((List.finRange 64).map (fun n => (s.stream n).reservation)).sum
  total : s.store.reserved ≤ 512

/-- The four laws together. -/
structure State.lawful (s : State) : Prop where
  windows : s.windowLaw
  closings : s.closingLaw
  deadlines : s.deadlineLaw
  store : s.storeLaw

/-- Every step keeps a law of a lawful state. -/
def LawKept (law : State → Prop) : Prop := ∀ s t, s.lawful → step s = .next t → law t

/-! ### Transactions -/

/-- A transaction writes the byte at an address. -/
def Tx.touches (tx : Tx) (a : Nat) : Prop := ∃ i, i < tx.body.data.length ∧ a = byteAddr tx.addr i

/-- Memory after a completed transaction: each byte it writes is there, and every other byte is as before. -/
def memoryAfter (tx : Tx) (before after : Memory) : Prop :=
  (∀ i, (h : i < tx.body.data.length) → after.read (byteAddr tx.addr i) = some tx.body.data[i])
    ∧ ∀ a, ¬ tx.touches a → after.read a = before.read a

/-! ### When a command's event can happen -/

/-- The TAKEN write of an outcome-list entry's record has completed (R136). -/
def State.takenStands (s : State) (e : OutcomeEntry) : Prop :=
  (∃ n, e.source = .drain n ∧ ∃ h ∈ s.walker.held, h.stream = n ∧ h.settled = true ∧ h.takenWritten = true)
    ∨ (e.source = .barrier ∧ ∃ b, s.walker.heldBarrier = some b ∧ b.takenWritten = true)

/-- An outcome write goes before the transactions of the order being walked: one is begun, or the oldest entry of the
outcome list is ready (R136). -/
def State.outcomeFirst (s : State) : Prop :=
  s.walker.writing ≠ none ∨ ∃ e rest, s.walker.outcomes = e :: rest ∧ s.takenStands e

/-- The walker's read has been issued: it is in flight, or the walker presents it to the Memory Port (log 24). -/
def State.readOut (s : State) : Prop :=
  (∃ f, s.port.flight = some f ∧ (f.tx.role = .linkRead ∨ f.tx.role = .orderFetch)) ∨ ¬ s.outcomeFirst

/-- A deadline entry of a stream is due: its expiry can be taken (R43, R47). -/
def State.expiryDue (s : State) (n : StreamId) (k : DeadlineKind) (due : Word) : Prop :=
  s.global.working = true ∧ s.deadline n k = some due ∧ (s.time.tick - due).toNat < 2 ^ 31

/-- The walker has passed an order to its owner (R130). -/
def State.requested (s : State) (ref : RecordRef) (o : Order) : Prop :=
  s.global.working = true ∧ s.walker.activity = .request ref o

/-- A transaction is in flight, and the part works (R179). -/
def State.flying (s : State) (tx : Tx) : Prop :=
  s.global.working = true ∧ ∃ k, s.port.flight = some { tx := tx, periods := k }

/-- The state with no transaction in flight: what a completed read leaves (R179). -/
def State.portFreed (s : State) : State := { s with port := { s.port with flight := none } }

/-- A completed write of at most 64 bytes: the port is free, memory holds the bytes, nothing else changes (R179). -/
def State.written (s : State) (tx : Tx) (t : State) : Prop :=
  t = { s with port := { s.port with flight := none }, sysMem := t.sysMem } ∧ memoryAfter tx s.sysMem t.sysMem

/-- The lane is free and its arbiter's choice is a stream and its work (R82). -/
def State.laneServes (s : State) (n : StreamId) (w : Work) : Prop :=
  s.global.working = true ∧ s.lane.op = none ∧ s.laneChoice = some (n, w)

/-- How far a stream lies after the last one served, 0 to 63 (R82). -/
def laneDistance (last n : StreamId) : Nat := (n.val + 63 - last.val) % 64

/-- How far a tally record lies after the last one written, 0 to 64 (R164). -/
def tallyDistance (last i : Fin 65) : Nat := (i.val + 64 - last.val) % 65

/-- The next take takes this frame: the unit is FREE, the frame stands in the link's oldest FULL buffer, and it is that
link's turn or no other link has a FULL buffer (R113). -/
def State.takes (s : State) (l : LinkId) (i : Fin 2) (rest : List (Fin 2)) (f : Frame) : Prop :=
  s.global.working = true ∧ s.acceptance.held = none ∧ (s.rx l).order = i :: rest ∧ (s.rx l).staging[i] = .full f
    ∧ (s.acceptance.lastLink ≠ l ∨ ∀ k, k ≠ l → (s.rx k).order = [])

/-- The unit holds a frame that it offers (R112). -/
def State.offers (s : State) (h : HeldFrame) : Prop := s.global.working = true ∧ s.acceptance.held = some h

/-- An offer has been taken: the unit and the staging buffer are FREE, nothing else changes (R119). -/
def State.offerEnds (s : State) (h : HeldFrame) : State :=
  ({ s with acceptance := { s.acceptance with held := none } } : State).setRx h.link
    { s.rx h.link with staging := (s.rx h.link).staging.set h.index.val .free h.index.isLt }

/-- The burst of an offered frame as a slot holds it (R23). -/
def HeldFrame.burst (h : HeldFrame) (b : BufferId) (arrival : Word) : Burst :=
  { buffer := b, sequence := h.frame.sequence, length := h.frame.samples.length, originTime := h.frame.originTime,
    mark := h.frame.mark, test := h.frame.test, link := h.link, arrival := arrival }

/-- A buffer is claimed from the pool and filled (R16, R18). -/
def State.filled (s : State) (b : BufferId) (pool : List BufferId) (samples : List Half) : State :=
  { s with store := { s.store with buffers := s.store.buffers.set b.val samples b.isLt, pool := pool } }

/-- SILENCE is armed a silence period after a tick, with a period that is not zero (R35). -/
def State.silenceAfter (s : State) (n : StreamId) (period : Half) (arrival : Word) : State :=
  if period = 0 then s else s.arm n .silence (arrival + BitVec.ofNat 32 (1000 * period.toNat))

/-- The order's final result is answered to the walker, which is to write it (R130, R131). -/
def State.answered (s : State) (ref : RecordRef) (code : ResultCode) (value : Word) : State :=
  { s with walker := { s.walker with activity := .finish ref { code := code, value := value } } }

/-- A stream's state changes: its tally record is pending (R5). -/
def State.stateChanged (s : State) (n : StreamId) (st : Stream) : State := (s.setStream n st).join n.castSucc

/-- An immediate close has flushed a stream's window and queue and cancelled HEAD and SILENCE, and the stream is DRAINING; a
record in flight stays in the queue (R8, R11). -/
def State.flushedOut (s : State) (n : StreamId) : State :=
  let st := s.stream n
  let stay := if s.recordInFlight n then 1 else 0
  let bursts := st.window.filterMap id
  let records := st.queue.drop stay
  let back := records.flatMap (fun r => r.content.buffers) ++ bursts.map (fun b => b.buffer)
  let u := (({ s with store := { s.store with pool := back ++ s.store.pool } } : State).cancel n .head).cancel n .silence
  let after : Stream :=
    { st with
      state := .draining
      window := st.window.map (fun _ => none)
      queue := st.queue.take stay
      counters := { st.counters with
        flushed := st.counters.flushed + BitVec.ofNat 32 bursts.length + BitVec.ofNat 32 records.length }
      changed := st.changed || st.state != .draining || !bursts.isEmpty || !records.isEmpty }
  if st.state = .draining then u.setStream n after else u.stateChanged n after

/-- Transactions write bytes from an address on, in pieces of 64 with the rest in the last (R83). -/
def writesRecord (addr : Word) (bytes : List Byte) (txs : List Tx) : Prop :=
  (txs.map (fun tx => tx.body.data)).flatten = bytes
    ∧ ∀ i, (h : i < txs.length) →
        txs[i].addr = addr + BitVec.ofNat 32 (64 * i)
        ∧ txs[i].role = .recordPart (decide (i + 1 = txs.length))
        ∧ txs[i].body.data.length ≤ 64
        ∧ (i + 1 < txs.length → txs[i].body.data.length = 64)

/-- The two transactions of a page close: the header from byte 4 on, then the state word CLOSED (R87). -/
def writesClose (addr : Word) (header : List Byte) (txs : List Tx) : Prop :=
  txs = [{ addr := addr + 4, body := .write header, role := .pageHeader },
         { addr := addr, body := .write [1, 0, 0, 0], role := .pageState }]

end Sys2Proof.Machine
end

