-- ==== Sys2Proof/Certificates/Slice0/Obligations.lean ====
section
/-! DEFINITION. The statements for the provers. -/

open Sys2Proof Sys2Proof.Machine

/-! ### Steps and clock periods -/

/-- A step runs the command at the front of the queue on the queue's rest.
The model's choices here: log 1. -/
def Obligations.StepRunsFrontCommand : Prop :=
  ∀ (c : Instr) (rest : List Instr) (s : State),
    s.pending = c :: rest → step s = exec c { s with pending := rest }

/-- On an empty queue a step is one reference clock period (the model's choice, log 2). A period that does not time
out counts the divider count, the line-loss counts and the periods of the transaction in flight; CAUSE and the device
record's flag change only when a line-loss event takes a link out of UP. At 65,536 periods the part is FAULTED with
BUS TIMEOUT, before or after the period's counts (log 4), and every block stays as it then was.
The model's choices here: logs 2, 4, 6. -/
def Obligations.ClockPeriodCounts : Prop :=
  (∀ s : State, s.pending = [] → (∀ f, s.port.flight = some f → f.periods + 1 < 65536) →
      let lost (l : LinkId) : Prop := (s.rx l).symbolTaken = false ∧ 1024 ≤ (s.rx l).lossCount + 1
      let leaves (l : LinkId) : Prop := (s.rx l).state = .up ∧ lost l
      ∃ t, step s = .next t
        ∧ t = { s with
            time := t.time, rxA := t.rxA, rxB := t.rxB, tally := t.tally, cause := t.cause
            port := { s.port with flight := s.port.flight.map (fun f => { f with periods := f.periods + 1 }) } }
        ∧ (s.global.working = false → t = { s with port := t.port })
        ∧ (s.global.working = true →
            t.time =
              (if s.time.divCount + 1 < s.time.divider then { s.time with divCount := s.time.divCount + 1 }
               else { s.time with tick := s.time.tick + 1, divCount := 0 })
            ∧ (¬ leaves .a → ¬ leaves .b → t.tally = s.tally ∧ t.cause = s.cause)
            ∧ (leaves .a ∨ leaves .b → t.tally = { s.tally with deviceChanged := true } ∧ t.cause = s.cause ||| 0x08#7)
            ∧ ∀ l : LinkId,
                ((s.rx l).state = .off → t.rx l = s.rx l)
                ∧ ((s.rx l).state ≠ .off → (s.rx l).symbolTaken = true → t.rx l = { s.rx l with symbolTaken := false })
                ∧ ((s.rx l).state ≠ .off → (s.rx l).symbolTaken = false → (s.rx l).lossCount + 1 < 1024 →
                    t.rx l = { s.rx l with lossCount := (s.rx l).lossCount + 1 })
                ∧ ((s.rx l).state = .hunt → lost l → t.rx l = { s.rx l with lossCount := 0, idleRun := 0 })
                ∧ (leaves l → ∃ u, exec (.lineLoss l) s = .next u ∧ t.rx l = u.rx l)))
  ∧ (∀ (s : State) (f : Flight), s.pending = [] → s.port.flight = some f → s.global.canFault = true →
      65536 ≤ f.periods + 1 →
      ∃ t c, step s = .next t ∧ step { s with port := { s.port with flight := none } } = .next c
        ∧ t = { s with
            global := .faulted, faultReason := .busTimeout, faultAddr := f.tx.addr, time := t.time, rxA := t.rxA
            rxB := t.rxB, tally := t.tally, cause := t.cause, port := { s.port with flight := none }
            sysMem := t.sysMem, freeCount := t.freeCount }
        ∧ ((t.time, t.rxA, t.rxB, t.tally, t.cause) = (s.time, s.rxA, s.rxB, s.tally, s.cause ||| 0x40#7)
            ∨ (t.time, t.rxA, t.rxB, t.tally, t.cause) = (c.time, c.rxA, c.rxB, c.tally, c.cause ||| 0x40#7))
        ∧ ∀ a, ¬ f.tx.touches a → Memory.read t.sysMem a = Memory.read s.sysMem a)

/-! ### Reset -/

/-- The machine right after reset: the registers, each block at the values its chapter's reset table gives (every
stream, page state and receiver alike), what a host reads, the interrupt line deasserted, and that the laws of the
state hold there. The model's own are only: the check register FFFFFFFFh outside a frame (log 14), no symbol taken in
the present period and the reset input shown released (log 18), no byte written and no command waiting (logs 5, 25).
The model's choices here: logs 5, 8, 14, 17, 18, 25, 31. -/
def Obligations.ResetStateReadsAndLaws : Prop :=
  (State.reset.run = false ∧ State.reset.global = .idle ∧ State.reset.faultReason = .none ∧ State.reset.faultAddr = 0
    ∧ State.reset.root = 0 ∧ State.reset.cause = 0 ∧ State.reset.enable = 0 ∧ State.reset.resetHeld = false
    ∧ State.reset.sysMem = [] ∧ State.reset.pending = [])
  ∧ (∀ n : StreamId, State.reset.stream n =
      { state := .closed
        config :=
          { w := 0, q := 0, l := 0, p := 0, d := 0, sizeCode := 0, fillPolicy := .constant, fillWord := 0, f := 0, k := 0
            silence := 0, ageLimit := 0
            options := { markSync := false, acceptTest := false, notifyPages := false, notifyAlarms := false } }
        head := 0, headDeadline := 0, anchoredOnce := false, fillsInRow := 0, earlyRun := 0, window := []
        notes := { skipped := 0, starved := 0, resync := false, stall := false, cut := false }
        queue := [], repeatStore := [], closing := none
        counters :=
          { releasedData := 0, fillRecords := 0, skippedSequences := 0, late := 0, duplicate := 0, early := 0
            unsynced := 0, resyncs := 0, stalls := 0, cuts := 0, starved := 0, flushed := 0, pagesClosed := 0 }
        minMargin := 0x7FFFFFFF#32, changed := false })
  ∧ State.reset.store.pool.Perm (List.finRange 512) ∧ State.reset.store.reserved = 0
  ∧ State.reset.time =
      { tick := 0, divider := 0, divCount := 0, deadlines := [], sweep := { armed := false, due := 0, interval := 0 }
        tally := { armed := false, due := 0, interval := 0 } }
  ∧ (∀ n : StreamId, State.reset.page n = { supply := [], current := none, closingPage := none, serial := 0 })
  ∧ State.reset.lane = { op := none, todo := [], last := 63 }
  ∧ State.reset.port = { flight := none, lastGranted := .tally }
  ∧ (∀ l : LinkId, State.reset.rx l =
      { state := .off, filterValue := 0, filterMask := 0, idleRun := 0, violationRun := 0, lossCount := 0
        symbolTaken := false, assembly := .outside, bytes := [], check := 0xFFFFFFFF#32
        staging := Vector.replicate 2 .free, order := []
        counters := { good := 0, checkErrors := 0, formatErrors := 0, overruns := 0, linkOffDrops := 0 } })
  ∧ State.reset.acceptance =
      { held := none, lastLink := .b, routes := Vector.replicate 64 none, strays := []
        counters :=
          { filteredA := 0, filteredB := 0, strays := 0, strayOverflows := 0, wrongLink := 0, closedStream := 0
            testDiscards := 0 } }
  ∧ State.reset.walker =
      { cursor := 0, state := .parked, sweepPending := false, activity := .idle, held := [], heldBarrier := none
        outcomes := [], writing := none, ordersDone := 0, ordersRefused := 0 }
  ∧ State.reset.tally =
      { base := 0, pending := Vector.replicate 65 none, serials := Vector.replicate 65 0, last := 64, write := none
        deviceChanged := false }
  ∧ (∀ size : AccessSize, State.reset.readWindow 0x04#5 size = 0 ∧ State.reset.readWindow 0x08#5 size = 0
    ∧ State.reset.readWindow 0x0C#5 size = 0 ∧ State.reset.readWindow 0x10#5 size = 0
    ∧ State.reset.readWindow 0x14#5 size = 0 ∧ State.reset.readWindow 0x18#5 size = 0
    ∧ State.reset.readWindow 0x1C#5 size = 0)
  ∧ State.reset.readWindow 0x00#5 .word = 0x24160001#32
  ∧ State.reset.interruptLine = false
  ∧ State.reset.deadlinesUnique ∧ State.reset.memoryCanonical ∧ State.reset.straysBounded
  ∧ State.reset.supplyBounded ∧ State.reset.queueBounded ∧ State.reset.routesUnique ∧ State.reset.linksBounded
  ∧ State.reset.earlyRunBounded ∧ State.reset.restsOutsideWork ∧ State.reset.lawful

/-- A pin reset and a soft reset leave every block and register at its reset value; the soft reset keeps ROOT. Only
bytes of an abandoned write may change in memory, and none of an abandoned write of a final state. While the input is
asserted no register write changes anything, and its release changes only that it is asserted.
The model's choices here: logs 5, 6, 8, 14, 18, 30. -/
def Obligations.ResetsSetEveryBlock : Prop :=
  ∀ s : State,
    (∃ t, exec .pinReset s = .next t
      ∧ t = { State.reset with resetHeld := true, store := t.store, sysMem := t.sysMem, freeCount := t.freeCount,
                               pending := s.pending }
      ∧ t.store.pool = BurstStore.reset.pool ∧ t.store.reserved = 0
      ∧ (s.port.flight = none → t.sysMem = s.sysMem)
      ∧ (∀ f, s.port.flight = some f → f.tx.role = .outcomeState true ∨ f.tx.body.data = [] → t.sysMem = s.sysMem)
      ∧ (∀ f a, s.port.flight = some f → ¬ f.tx.touches a → Memory.read t.sysMem a = Memory.read s.sysMem a)
      ∧ exec .memoryResponse t = .next t)
    ∧ (∀ v : Word, v.getLsbD 2 = true → s.resetHeld = false →
        ∃ t, exec (.srst v) s = .next t
          ∧ t = { State.reset with root := s.root, store := t.store, sysMem := t.sysMem, freeCount := t.freeCount,
                                   pending := s.pending }
          ∧ t.store.pool = BurstStore.reset.pool ∧ t.store.reserved = 0
          ∧ (s.port.flight = none → t.sysMem = s.sysMem)
          ∧ (∀ f, s.port.flight = some f → f.tx.role = .outcomeState true ∨ f.tx.body.data = [] → t.sysMem = s.sysMem)
          ∧ (∀ f a, s.port.flight = some f → ¬ f.tx.touches a → Memory.read t.sysMem a = Memory.read s.sysMem a)
          ∧ exec .memoryResponse t = .next t)
    ∧ (s.resetHeld = true → ∀ (v : Word) (offset : BitVec 5) (size : AccessSize),
        exec (.run v) s = .next s ∧ exec (.nudge v) s = .next s ∧ exec (.srst v) s = .next s
        ∧ exec (.causeClear v) s = .next s ∧ exec (.enableWrite v) s = .next s ∧ exec (.rootWrite v) s = .next s
        ∧ exec (.registerWriteIgnored offset size v) s = .next s)
    ∧ exec .pinResetRelease s = .next { s with resetHeld := false }

/-! ### The register window -/

/-- RUN written 1 in IDLE begins STARTING, which reads the root record, or faults on an unusable ROOT. RUN written 0
in ACTIVE begins STOPPING: an order in progress and a read that is issued are waited for, a read that is not issued is
dropped, and with nothing in progress the stop sequence goes on at once. RUN written 0 in FAULTED takes the part to
IDLE, every block at its reset values, the registers kept, memory untouched, no cause raised. In every other case the
bit is stored and nothing else changes.
The model's choices here: logs 5, 8, 9, 14, 18, 24. -/
def Obligations.RunWriteByGlobalState : Prop :=
  ∀ (s : State) (v : Word), s.resetHeld = false → v.getLsbD 1 = false → v.getLsbD 2 = false →
    (s.global = .idle → v.getLsbD 0 = true → s.root ≠ 0 → s.root.toNat % 64 = 0 →
      exec (.run v) s = .next { s with
        run := true, global := .starting, faultReason := .none, faultAddr := 0,
        port := { s.port with
          flight := some { tx := { addr := s.root, body := .read 32, role := .rootRead }, periods := 0 } } })
    ∧ (s.global = .idle → v.getLsbD 0 = true → (s.root = 0 ∨ s.root.toNat % 64 ≠ 0) → s.port.flight = none →
      exec (.run v) s = .next { s with
        run := true, global := .faulted, faultReason := .root, faultAddr := s.root, cause := s.cause ||| 0x40#7 })
    ∧ (s.global = .active → v.getLsbD 0 = false →
      let stopping : State := { s with run := false, global := .stopping .order }
      let reads : Prop := s.walker.activity = .linkRead ∨ ∃ a, s.walker.activity = .fetch a
      (s.walker.activity = .idle → exec (.run v) s = .next stopping.advanceStop)
      ∧ (s.walker.activity ≠ .idle → ¬ reads ∨ s.readOut → exec (.run v) s = .next stopping)
      ∧ (reads → ¬ s.readOut → exec (.run v) s = .next
          ({ stopping with walker := { s.walker with activity := .idle } } : State).advanceStop))
    ∧ (s.global = .faulted → v.getLsbD 0 = false →
      exec (.run v) s = .next { State.reset with
        run := false, global := .idle, faultReason := s.faultReason, faultAddr := s.faultAddr, root := s.root,
        cause := s.cause, enable := s.enable,
        store := { s.store with pool := BurstStore.reset.pool, reserved := 0 },
        sysMem := s.sysMem, freeCount := s.freeCount, pending := s.pending })
    ∧ ((s.global = .starting ∨ (∃ p, s.global = .stopping p) ∨ (s.global = .active ∧ v.getLsbD 0 = true)
          ∨ (s.global = .faulted ∧ v.getLsbD 0 = true) ∨ (s.global = .idle ∧ v.getLsbD 0 = false)) →
      exec (.run v) s = .next { s with run := v.getLsbD 0 })

/-- A nudge, written to CONTROL, in each global state and walker state.
The model's choices here: log 12. -/
def Obligations.NudgeByWalkerState : Prop :=
  ∀ (s : State) (v : Word), s.resetHeld = false → v.getLsbD 1 = true → v.getLsbD 2 = false →
    (s.global = .active → v.getLsbD 0 = true → s.walker.state = .parked →
      exec (.nudge v) s = .next { s with
        run := true, walker := { s.walker with state := .walking, activity := .linkRead } })
    ∧ (s.global = .active → v.getLsbD 0 = true → (s.walker.state = .walking ∨ s.walker.state = .barrierWait) →
      exec (.nudge v) s = .next { s with run := true, walker := { s.walker with sweepPending := true } })
    ∧ ((s.global = .starting ∨ (∃ p, s.global = .stopping p) ∨ (s.global = .faulted ∧ v.getLsbD 0 = true)
          ∨ (s.global = .idle ∧ v.getLsbD 0 = false)) →
      exec (.nudge v) s = .next { s with run := v.getLsbD 0 })
    ∧ (∀ v', v'.getLsbD 0 = v.getLsbD 0 → v'.getLsbD 1 = false → v'.getLsbD 2 = false →
        ∃ t, exec (.run v') s = .next t ∧ exec (.nudge v) s = .next t.nudge)

/-- A write of CAUSE clears the bits written as 1; with a raise of the same bit, the later of the two decides. -/
def Obligations.CauseWriteClearsBits : Prop :=
  ∀ (s : State) (v : Word), s.resetHeld = false →
    exec (.causeClear v) s = .next { s with cause := s.cause &&& ~~~ (v.extractLsb' 0 7) }
    ∧ ∀ i, i < 7 →
        ((s.cause &&& ~~~ (v.extractLsb' 0 7)).getLsbD i = (s.cause.getLsbD i && !v.getLsbD i))
        ∧ (v.getLsbD i = true →
            (∀ t, exec (.causeClear v) s = .next t → (t.raise (1#7 <<< i)).cause.getLsbD i = true)
            ∧ (∀ t, exec (.causeClear v) (s.raise (1#7 <<< i)) = .next t → t.cause.getLsbD i = false))

/-- A write of ENABLE replaces the seven enables, and the interrupt line is asserted exactly when some cause is set
and enabled. A ROOT write is stored in IDLE and ignored elsewhere; a narrow write and a write of a read-only register
are ignored (and a 32-bit write at an offset that is no multiple of 4, log 27); each register reads what the tables
say, and 0 in the bits they do not name.
The model's choices here: logs 27, 31. -/
def Obligations.RegisterWritesAndReads : Prop :=
  ∀ (s : State) (v : Word),
    (s.resetHeld = false → exec (.enableWrite v) s = .next { s with enable := v.extractLsb' 0 7 })
    ∧ (s.interruptLine = true ↔ ∃ i, i < 7 ∧ s.cause.getLsbD i = true ∧ s.enable.getLsbD i = true)
    ∧ (s.resetHeld = false → s.global = .idle → exec (.rootWrite v) s = .next { s with root := v })
    ∧ (s.global ≠ .idle → exec (.rootWrite v) s = .next s)
    ∧ (∀ offset size, WellFormed (.registerWriteIgnored offset size v) = true →
        exec (.registerWriteIgnored offset size v) s = .next s)
    ∧ s.readRegister 0x00#5 = 0x24160001#32
    ∧ (s.readRegister 0x04#5).toNat = s.run.toNat
    ∧ s.readRegister 0x0C#5 = s.root
    ∧ (s.readRegister 0x10#5).toNat = s.cause.toNat
    ∧ (s.readRegister 0x14#5).toNat = s.enable.toNat
    ∧ s.readRegister 0x18#5 = s.faultAddr
    ∧ s.readRegister 0x1C#5 = s.time.tick
    ∧ (s.readRegister 0x08#5).extractLsb' 0 3
        = (match s.global with
           | .idle => 0#3
           | .starting => 1#3
           | .active => 2#3
           | .stopping _ => 3#3
           | .faulted => 4#3)
    ∧ (s.readRegister 0x08#5).extractLsb' 8 3
        = (match s.faultReason with
           | .none => 0#3
           | .root => 1#3
           | .badLink => 2#3
           | .busError => 3#3
           | .busTimeout => 4#3)
    ∧ (s.readRegister 0x08#5).extractLsb' 16 2
        = (match s.walker.state with
           | .parked => 0#2
           | .walking => 1#2
           | .barrierWait => 2#2)
    ∧ ∀ i, (3 ≤ i ∧ i ≤ 7) ∨ (11 ≤ i ∧ i ≤ 15) ∨ (18 ≤ i ∧ i ≤ 31) → (s.readRegister 0x08#5).getLsbD i = false

/-! ### STARTING and the stop sequence -/

/-- The root read's completion: a record that passes the four checks takes the part into ACTIVE, or on into STOPPING
with RUN 0 (with no outcome to write before, as it is in STARTING); any other record faults with reason ROOT.
The model's choices here: logs 9, 22, 24. -/
def Obligations.RootReadCompletes : Prop :=
  ∀ (s : State) (k : Nat) (a : Word) (r : BitVec 256), s.global = .starting →
    s.port.flight = some { tx := { addr := a, body := .read 32, role := .rootRead }, periods := k } →
    let signature := r.extractLsb' 0 32
    let version := r.extractLsb' 32 16
    let divider := (r.extractLsb' 48 16).toNat
    let base := r.extractLsb' 96 32
    let sweep := r.extractLsb' 128 16
    let tallyInterval := r.extractLsb' 144 16
    let valid := signature = 0x2416A5C3#32 ∧ version = 1#16 ∧ 1 ≤ divider ∧ divider ≤ 1024
      ∧ base ≠ 0 ∧ base.toNat % 64 = 0
    let timer (i : BitVec 16) : Timer :=
      { armed := i != 0, due := BitVec.ofNat 32 (1000 * i.toNat), interval := i }
    (valid → s.run = true ∨ (s.walker.writing = none ∧ s.walker.outcomes = []) →
      ∃ t, exec (.rootReadComplete r) s = .next t
        ∧ t = { s with
            global := if s.run then .active else .stopping .order
            port := { s.port with flight := none }
            time := { s.time with
              tick := 0, divider := divider, divCount := 0, sweep := timer sweep, tally := timer tallyInterval }
            tally := { s.tally with base := base, pending := t.tally.pending }
            walker := { s.walker with cursor := s.root + 8, state := .walking, activity := .linkRead } }
        ∧ (∀ i : Fin 65, t.tally.pending[i].isSome)
        ∧ ∀ (i : Fin 65), s.tally.pending[i] = none →
            t.tally.pending[i] = some { zero := false, order := false })
    ∧ (¬ valid →
      exec (.rootReadComplete r) s = .next { s with
        global := .faulted, faultReason := .root, faultAddr := s.root, port := { s.port with flight := none },
        cause := s.cause ||| 0x40#7 })

/-- The stop sequence moves only in STOPPING, and a step whose work is not done holds it. When step 5 is complete the
part enters IDLE and raises STOPPED; with RUN 1 STARTING begins at once, or a ROOT fault on an unusable ROOT.
The model's choices here: logs 5, 8, 9, 14, 16, 18. -/
def Obligations.StopSequenceSteps : Prop :=
  ∀ s : State,
    ((∀ p, s.global ≠ .stopping p) → s.advanceStop = s)
    ∧ (s.global = .stopping .order → s.walker.activity ≠ .idle → s.advanceStop = s)
    ∧ (s.global = .stopping .held →
        (s.walker.held ≠ [] ∨ s.walker.heldBarrier ≠ none ∨ s.walker.outcomes ≠ [] ∨ s.walker.writing ≠ none) →
        s.advanceStop = s)
    ∧ (s.global = .stopping .links → s.acceptance.held ≠ none → s.advanceStop = s)
    ∧ (s.global = .stopping .streams → (∃ n, (s.stream n).state ≠ .closed) → s.advanceStop = s)
    ∧ (s.global = .stopping .tallies → ((∃ i : Fin 65, s.tally.pending[i] ≠ none) ∨ s.tally.write ≠ none) →
        s.advanceStop = s)
    ∧ (s.global = .stopping .tallies → (∀ i : Fin 65, s.tally.pending[i] = none) → s.tally.write = none →
        let idle : State := { State.reset with
          run := s.run, global := .idle, faultReason := s.faultReason, faultAddr := s.faultAddr, root := s.root,
          cause := s.cause ||| 0x20#7, enable := s.enable, resetHeld := s.resetHeld,
          store := { s.store with pool := BurstStore.reset.pool, reserved := 0 },
          sysMem := s.sysMem, freeCount := s.freeCount, pending := s.pending }
        (s.run = false → s.advanceStop = idle)
        ∧ (s.run = true → s.root ≠ 0 → s.root.toNat % 64 = 0 →
          s.advanceStop = { idle with
            global := .starting, faultReason := .none, faultAddr := 0
            port := { idle.port with
              flight := some { tx := { addr := s.root, body := .read 32, role := .rootRead }, periods := 0 } } })
        ∧ (s.run = true → s.root = 0 ∨ s.root.toNat % 64 ≠ 0 →
          s.advanceStop = { idle with
            global := .faulted, faultReason := .root, faultAddr := s.root, cause := s.cause ||| 0x60#7 }))

/-- A step of the stop sequence whose work is done is passed in the same event. From step 1 it goes on to step 2. Past
step 2 the walker is PARKED, and a link in HUNT or UP goes OFF as a disable takes it, raising LINK. Past step 3 every
stream that is open and not in its closing sequence is closed at once with reason STOP, in rising number. Past step 4
every record whose changed-since-snapshot flag is set joins the tally-pending set.
The model's choices here: logs 8, 14, 16, 18. -/
def Obligations.StopSequenceProgress : Prop :=
  ∀ s : State,
    (s.global = .stopping .order → s.walker.activity = .idle →
      s.advanceStop = ({ s with global := .stopping .held } : State).advanceStop)
    ∧ (s.global = .stopping .held → s.walker.held = [] → s.walker.heldBarrier = none → s.walker.outcomes = [] →
        s.walker.writing = none →
        ∃ u : State, s.advanceStop = u.advanceStop
          ∧ u = { s with
              global := .stopping .links, walker := { s.walker with state := .parked }, rxA := u.rxA, rxB := u.rxB
              tally := { s.tally with deviceChanged := u.tally.deviceChanged }, cause := u.cause }
          ∧ (s.rxA.state = .off → s.rxB.state = .off →
              u.tally.deviceChanged = s.tally.deviceChanged ∧ u.cause = s.cause)
          ∧ (s.rxA.state ≠ .off ∨ s.rxB.state ≠ .off → u.tally.deviceChanged = true ∧ u.cause = s.cause ||| 0x08#7)
          ∧ ∀ l : LinkId,
              ((s.rx l).state = .off → u.rx l = s.rx l)
              ∧ ((s.rx l).state ≠ .off →
                u.rx l = { s.rx l with
                  state := .off, idleRun := 0, violationRun := 0, lossCount := 0, symbolTaken := false
                  assembly := .outside, bytes := [], check := (u.rx l).check, staging := (u.rx l).staging, order := []
                  counters := { (s.rx l).counters with
                    linkOffDrops := (s.rx l).counters.linkOffDrops
                      + BitVec.ofNat 32 ((if (s.rx l).assembly = .inFrame then 1 else 0)
                          + ((s.rx l).staging.toList.filter Staging.isFull).length) } }
                ∧ ∀ i : Fin 2, (u.rx l).staging[i] =
                    match (s.rx l).staging[i] with
                    | .free => .free
                    | .full _ => .free
                    | .held f => .held f))
    ∧ (s.global = .stopping .links → s.rxA.state = .off → s.rxB.state = .off → s.acceptance.held = none →
        let close (u : State) (n : StreamId) : State :=
          if (u.stream n).state ≠ .closed ∧ (u.stream n).closing = none then (u.flushedOut n).beginClosing n .stop
          else u
        s.advanceStop = ((List.finRange 64).foldl close { s with global := .stopping .streams }).advanceStop)
    ∧ (s.global = .stopping .streams → (∀ n, (s.stream n).state = .closed) →
        ∃ u : State, s.advanceStop = u.advanceStop
          ∧ u = { s with global := .stopping .tallies, tally := { s.tally with pending := u.tally.pending } }
          ∧ (∀ n : StreamId, u.tally.pending[n.castSucc] =
              if (s.stream n).changed && s.tally.pending[n.castSucc].isNone then some { zero := false, order := false }
              else s.tally.pending[n.castSucc])
          ∧ u.tally.pending[(64 : Fin 65)] =
              if s.tally.deviceChanged && s.tally.pending[(64 : Fin 65)].isNone then
                some { zero := false, order := false }
              else s.tally.pending[(64 : Fin 65)])

/-! ### The Memory Port -/

/-- With the port free, the first requester after the last granted that presents a transaction is granted; with none,
or with the port busy, nothing changes.
The model's choices here: logs 1, 10. -/
def Obligations.GrantIsRoundRobin : Prop :=
  ∀ s : State, s.global.working = true →
    (s.port.flight = none →
      ∀ r1 r2 r3 : Requester,
        (s.port.lastGranted, r1, r2, r3) ∈
          [(Requester.walker, Requester.delivery, Requester.tally, Requester.walker),
           (.delivery, .tally, .walker, .delivery), (.tally, .walker, .delivery, .tally)] →
        (∀ tx u, s.present r1 = some (tx, u) →
          exec .memoryGrant s = .next { u with port := { flight := some { tx := tx, periods := 0 }, lastGranted := r1 } })
        ∧ (∀ tx u, s.present r1 = none → s.present r2 = some (tx, u) →
          exec .memoryGrant s = .next { u with port := { flight := some { tx := tx, periods := 0 }, lastGranted := r2 } })
        ∧ (∀ tx u, s.present r1 = none → s.present r2 = none → s.present r3 = some (tx, u) →
          exec .memoryGrant s = .next { u with port := { flight := some { tx := tx, periods := 0 }, lastGranted := r3 } })
        ∧ (s.present r1 = none → s.present r2 = none → s.present r3 = none → exec .memoryGrant s = .next s))
    ∧ (s.port.flight ≠ none → exec .memoryGrant s = .next s)

/-- What the requesters present, with address and bytes. The lane and the Tally Writer: their next transaction in
issue order. The walker: the second write of an outcome begun; then the oldest outcome-list entry once its TAKEN write
has completed; then its own, while an entry that waits holds back those behind it. A final outcome is an 8-byte write
of the result and a 4-byte write of the state, TAKEN the state alone; in step 2 of the stop sequence the held orders
not settled are refused STOPPED, drains in their order and then the barrier.
The model's choices here: logs 7, 10, 29. -/
def Obligations.RequestersPresentInOrder : Prop :=
  ∀ s : State,
    let result (ref : RecordRef) (r : Result) : Tx :=
      { addr := ref.addr + 4, body := .write ([r.code.code, 0, 0, 0] ++ le32 r.value), role := .outcomeResult }
    let shown (ref : RecordRef) (state : Byte) (final : Bool) : Tx :=
      { addr := ref.addr, body := .write [state, ref.code, ref.flags, ref.spare], role := .outcomeState final }
    let begins (w : Walker) (ref : RecordRef) (r : Result) (source : Option HeldKind) : Option (Tx × State) :=
      some (result ref r, { s with walker := { w with
        writing := some { ref := ref, kind := .final r source, resultDone := false } } })
    let stopped : Result := { code := .stopped, value := 0 }
    (s.lane.todo = [] → s.present .delivery = none)
    ∧ (∀ tx rest, s.lane.todo = tx :: rest → s.present .delivery = some (tx, { s with lane := { s.lane with todo := rest } }))
    ∧ (s.tally.write = none → s.present .tally = none)
    ∧ (∀ w, s.tally.write = some w → w.todo = [] → s.present .tally = none)
    ∧ (∀ w tx rest, s.tally.write = some w → w.todo = tx :: rest →
        s.present .tally = some (tx, { s with tally := { s.tally with write := some { w with todo := rest } } }))
    ∧ (∀ o, s.walker.writing = some o →
        (∀ source, o.kind = .taken source → s.present .walker = some (shown o.ref 2 false, s))
        ∧ (∀ r source, o.kind = .final r source →
            (o.resultDone = false → s.present .walker = some (result o.ref r, s))
            ∧ (o.resultDone = true → r.code ∈ [ResultCode.ok, .nothing, .overtaken, .somePart] →
                s.present .walker = some (shown o.ref 3 true, s))
            ∧ (o.resultDone = true → r.code ∉ [ResultCode.ok, .nothing, .overtaken, .somePart] →
                s.present .walker = some (shown o.ref 4 true, s))))
    ∧ (∀ e rest, s.walker.writing = none → s.walker.outcomes = e :: rest → s.takenStands e →
        s.present .walker = begins { s.walker with outcomes := rest } e.ref e.result (some e.source))
    ∧ (¬ s.outcomeFirst →
        (s.walker.activity = .linkRead →
          s.present .walker = some ({ addr := s.walker.cursor, body := .read 4, role := .linkRead }, s))
        ∧ (∀ a, s.walker.activity = .fetch a →
          s.present .walker = some ({ addr := a, body := .read 64, role := .orderFetch }, s))
        ∧ (∀ ref r, s.walker.activity = .finish ref r → s.present .walker = begins s.walker ref r none)
        ∧ (∀ ref source, s.walker.activity = .taken ref source →
          s.present .walker = some (shown ref 2 false, { s with walker := { s.walker with
            writing := some { ref := ref, kind := .taken source, resultDone := true } } }))
        ∧ (∀ ref tx rest count, s.walker.activity = .strays ref (tx :: rest) count →
          s.present .walker = some (tx, { s with walker := { s.walker with activity := .strays ref rest count } }))
        ∧ (∀ ref count n o, s.walker.activity ∈ [Activity.strays ref [] count, .request ref o, .waitClose ref n,
            .waitFlush ref n, .waitTally ref count] → s.present .walker = none)
        ∧ (s.walker.activity = .idle → s.global ≠ .stopping .held → s.present .walker = none)
        ∧ (s.walker.activity = .idle → s.global = .stopping .held →
          (∀ pre h post, s.walker.held = pre ++ h :: post → (∀ x ∈ pre, x.settled = true) → h.settled = false →
            s.present .walker = begins { s.walker with held := pre ++ { h with settled := true } :: post } h.ref stopped
              (some (.drain h.stream)))
          ∧ ((∀ x ∈ s.walker.held, x.settled = true) →
            (∀ b, s.walker.heldBarrier = some b → b.settled = false →
              s.present .walker = begins { s.walker with heldBarrier := some { b with settled := true } } b.ref stopped
                (some .barrier))
            ∧ ((∀ b, s.walker.heldBarrier = some b → b.settled = true) → s.present .walker = none))))

/-- A good response to a transaction that another of its operation follows: the port is free, memory holds the bytes,
and the outcome's state write comes next after its result write.
The model's choices here: logs 5, 7, 22. -/
def Obligations.ResponseCompletesPart : Prop :=
  ∀ (s : State) (tx : Tx), s.flying tx → tx.body.data.length ≤ 64 →
    tx.role ∈ [.outcomeResult, .strayEntry false, .recordPart false, .pageHeader, .pageReturn false, .tallyOdd,
      .tallyBody] →
    ∃ u, s.written tx u
      ∧ (tx.role ≠ .outcomeResult → exec .memoryResponse s = .next u)
      ∧ (tx.role = .outcomeResult → exec .memoryResponse s = .next { u with walker := { s.walker with
            writing := s.walker.writing.map (fun o => { o with resultDone := true }) } })

/-- An error response and a timeout fault the part: reason, first byte address, FAULT raised, the transaction
abandoned; every block and every byte outside the transaction stays as it was, and the write of a final state that is
abandoned changes no byte.
The model's choices here: logs 3, 6, 30. -/
def Obligations.BusFaultsFreezeThePart : Prop :=
  ∀ (s : State) (f : Flight) (c : Instr) (reason : FaultReason),
    (c, reason) ∈ [(Instr.busError, FaultReason.busError), (.busTimeout, .busTimeout)] →
    s.global = .starting ∨ s.global = .active ∨ (∃ p, s.global = .stopping p) → s.port.flight = some f →
    ∃ t, exec c s = .next t
      ∧ t = { s with
          global := .faulted, faultReason := reason, faultAddr := f.tx.addr, cause := s.cause ||| 0x40#7,
          port := { s.port with flight := none }, sysMem := t.sysMem, freeCount := t.freeCount }
      ∧ (f.tx.role = .outcomeState true ∨ f.tx.body.data = [] → t.sysMem = s.sysMem)
      ∧ ∀ a, ¬ f.tx.touches a → Memory.read t.sysMem a = Memory.read s.sysMem a

/-! ### Time -/

/-- A tick increments the tick counter in ACTIVE and STOPPING and sets the divider count to 0; elsewhere the counter
stands. The sweep timer's expiry nudges the walker and the tally timer's makes every changed record a member of the
tally-pending set; each re-arms itself at its previous due tick plus its interval. A timer that is not armed, one
whose due tick lies ahead, and both in a part that counts no ticks, do not expire.
The model's choices here: logs 1, 3. -/
def Obligations.TicksAndDeviceTimers : Prop :=
  (∀ s : State,
      (s.global = .active ∨ (∃ p, s.global = .stopping p) →
        exec .tick s = .next { s with time := { s.time with tick := s.time.tick + 1, divCount := 0 } })
      ∧ (s.global = .idle ∨ s.global = .starting ∨ s.global = .faulted → exec .tick s = .next s))
  ∧ (∀ s : State, s.global.working = true →
      (s.time.sweep.armed = true → (s.time.tick - s.time.sweep.due).toNat < 2 ^ 31 →
        exec .sweepTimerExpiry s = .next (State.nudge { s with time := { s.time with
          sweep := { s.time.sweep with
            due := s.time.sweep.due + BitVec.ofNat 32 (1000 * s.time.sweep.interval.toNat) } } }))
      ∧ (s.time.tally.armed = true → (s.time.tick - s.time.tally.due).toNat < 2 ^ 31 →
        ∃ t, exec .tallyTimerExpiry s = .next t
          ∧ t = { s with
              time := { s.time with tally := { s.time.tally with
                due := s.time.tally.due + BitVec.ofNat 32 (1000 * s.time.tally.interval.toNat) } }
              tally := { s.tally with pending := t.tally.pending } }
          ∧ (∀ n : StreamId, t.tally.pending[n.castSucc] =
              if (s.stream n).changed && s.tally.pending[n.castSucc].isNone then some { zero := false, order := false }
              else s.tally.pending[n.castSucc])
          ∧ t.tally.pending[(64 : Fin 65)] =
              if s.tally.deviceChanged && s.tally.pending[(64 : Fin 65)].isNone then
                some { zero := false, order := false }
              else s.tally.pending[(64 : Fin 65)]))
  ∧ (∀ s : State,
      (s.global.working = false ∨ s.time.sweep.armed = false ∨ 2 ^ 31 ≤ (s.time.tick - s.time.sweep.due).toNat →
        exec .sweepTimerExpiry s = .next s)
      ∧ (s.global.working = false ∨ s.time.tally.armed = false ∨ 2 ^ 31 ≤ (s.time.tick - s.time.tally.due).toNat →
        exec .tallyTimerExpiry s = .next s))

/-- A cancel removes the entry of a stream and kind, due or not, and no expiry of it occurs; with no entry it has no
effect; no other entry changes. -/
def Obligations.CancelRemovesEntry : Prop :=
  ∀ (s : State) (n : StreamId) (k : DeadlineKind),
    (s.cancel n k).deadline n k = none
    ∧ (∀ m j, ¬ (m = n ∧ j = k) → (s.cancel n k).deadline m j = s.deadline m j)
    ∧ s.cancel n k = { s with time := { s.time with deadlines := (s.cancel n k).time.deadlines } }
    ∧ (s.deadline n k = none → s.cancel n k = s)
    ∧ (k = .head → exec (.headExpiry n) (s.cancel n k) = .next (s.cancel n k))
    ∧ (k = .silence → exec (.silenceExpiry n) (s.cancel n k) = .next (s.cancel n k))
    ∧ (k = .age → exec (.ageExpiry n) (s.cancel n k) = .next (s.cancel n k))

/-- An arming ends with exactly one entry for the stream and kind, holding the new due tick; no other entry changes;
an entry armed with a due tick already reached is due at once. With no entry, with one whose due tick lies ahead of
the tick counter by the test of R43, and in a part that counts no ticks, an expiry does not occur.
The model's choices here: log 1. -/
def Obligations.ArmReplacesEntry : Prop :=
  ∀ (s : State) (n : StreamId) (k : DeadlineKind) (due : Word),
    (s.arm n k due).deadline n k = some due
    ∧ ((s.arm n k due).time.deadlines.filter (fun e => e.stream == n && e.kind == k)).length = 1
    ∧ (∀ m j, ¬ (m = n ∧ j = k) → (s.arm n k due).deadline m j = s.deadline m j)
    ∧ s.arm n k due = { s with time := { s.time with deadlines := (s.arm n k due).time.deadlines } }
    ∧ (s.global.working = true → (s.time.tick - due).toNat < 2 ^ 31 → (s.arm n k due).expiryDue n k due)
    ∧ ((s.global.working = false ∨ s.deadline n k = none
          ∨ ∃ d, s.deadline n k = some d ∧ 2 ^ 31 ≤ (s.time.tick - d).toNat) →
        (k = .head → exec (.headExpiry n) s = .next s)
        ∧ (k = .silence → exec (.silenceExpiry n) s = .next s)
        ∧ (k = .age → exec (.ageExpiry n) s = .next s))

/-! ### Expiries of a stream -/

/-- A HEAD expiry that finds a burst in slot 0, in RUNNING or DRAINING, with room in the queue: a DATA record enters
the queue with the pending notes, the repeat store is filled, the stream advances by one and HEAD is armed at the next
deadline, but for a DRAINING stream whose window is now empty. -/
def Obligations.HeadExpiryReleasesData : Prop :=
  ∀ (s : State) (n : StreamId) (due : Word) (b : Burst) (rest : List (Option Burst)),
    s.expiryDue n .head due →
    (s.stream n).state = .running ∨ (s.stream n).state = .draining →
    (s.stream n).window = some b :: rest →
    (s.stream n).queue.length < (s.stream n).config.q →
    let st := s.stream n
    let r : QueueRecord :=
      { kind := .data, sequence := st.head, releaseTick := due, count := b.length, content := .buffer b.buffer,
        link := some b.link, originTime := b.originTime, mark := b.mark, test := b.test, repeated := false,
        notes := st.notes }
    let u := (s.cancel n .head).setStream n { st with
      head := st.head + 1, headDeadline := due + st.config.p, window := rest ++ [none], queue := st.queue ++ [r],
      notes := .clear, repeatStore := s.store.buffers[b.buffer], fillsInRow := 0,
      counters := { st.counters with releasedData := st.counters.releasedData + 1 }, changed := true }
    (st.state = .running ∨ (∃ x, some x ∈ rest) → exec (.headExpiry n) s = .next (u.arm n .head (due + st.config.p)))
    ∧ (st.state = .draining → (∀ x, some x ∉ rest) → exec (.headExpiry n) s = .next u)

/-- A HEAD expiry of a RUNNING stream that finds slot 0 empty with fills in row below F: the FILL record of the fill
policy enters the queue; REPEAT with a filled store claims a buffer and copies the store into it.
The model's choices here: log 8. -/
def Obligations.HeadExpiryFills : Prop :=
  ∀ (s : State) (n : StreamId) (due : Word) (rest : List (Option Burst)),
    s.expiryDue n .head due → (s.stream n).state = .running → (s.stream n).window = none :: rest →
    (s.stream n).fillsInRow < (s.stream n).config.f →
    (s.stream n).queue.length < (s.stream n).config.q →
    let st := s.stream n
    let fill (count : Nat) (content : RecordContent) (repeated : Bool) : QueueRecord :=
      { kind := .fill, sequence := st.head, releaseTick := due, count := count, content := content, link := none,
        originTime := 0, mark := false, test := false, repeated := repeated, notes := st.notes }
    let after (r : QueueRecord) : Stream :=
      { st with
        head := st.head + 1, headDeadline := due + st.config.p, window := rest ++ [none], queue := st.queue ++ [r],
        notes := .clear, fillsInRow := st.fillsInRow + 1,
        counters := { st.counters with fillRecords := st.counters.fillRecords + 1 }, changed := true }
    let done (u : State) (r : QueueRecord) : State :=
      ((u.cancel n .head).setStream n (after r)).arm n .head (due + st.config.p)
    ((st.config.fillPolicy = .constant ∨ (st.config.fillPolicy = .repeatStore ∧ st.repeatStore = [])) →
      exec (.headExpiry n) s = .next (done s (fill st.config.l (.fillWord st.config.fillWord) false)))
    ∧ (st.config.fillPolicy = .markOnly → exec (.headExpiry n) s = .next (done s (fill 0 .empty false)))
    ∧ (∀ b pool, st.config.fillPolicy = .repeatStore → st.repeatStore ≠ [] → s.store.pool = b :: pool →
      exec (.headExpiry n) s = .next (done
        { s with store := { s.store with buffers := s.store.buffers.set b.val st.repeatStore b.isLt, pool := pool } }
        (fill st.repeatStore.length (.buffer b) true)))

/-- A HEAD expiry that finds slot 0 empty, in RUNNING with the fill limit reached or in DRAINING: with a burst at the
lowest offset k the stream skips ahead to it; a RUNNING stream whose window is empty stalls. -/
def Obligations.HeadExpirySkipsOrStalls : Prop :=
  ∀ (s : State) (n : StreamId) (due : Word),
    s.expiryDue n .head due →
    let st := s.stream n
    (∀ (k : Nat) (b : Burst) (rest : List (Option Burst)), 1 ≤ k →
      st.window = List.replicate k none ++ some b :: rest →
      (st.state = .running ∧ st.config.f ≤ st.fillsInRow) ∨ st.state = .draining →
      exec (.headExpiry n) s = .next (((s.cancel n .head).setStream n { st with
        head := st.head + BitVec.ofNat 16 k
        headDeadline := due + BitVec.ofNat 32 k * st.config.p
        window := some b :: rest ++ List.replicate k none
        notes := { st.notes with skipped := BitVec.ofNat 16 (min 65535 (st.notes.skipped.toNat + k)) }
        fillsInRow := 0
        counters := { st.counters with skippedSequences := st.counters.skippedSequences + BitVec.ofNat 32 k }
        changed := true }).arm n .head (due + BitVec.ofNat 32 k * st.config.p)))
    ∧ (st.state = .running → st.config.f ≤ st.fillsInRow → (∀ x ∈ st.window, x = none) →
      exec (.headExpiry n) s = .next ((((s.cancel n .head).setStream n { st with
        state := .stalled
        notes := { st.notes with stall := true }
        counters := { st.counters with stalls := st.counters.stalls + 1 }
        changed := true }).join n.castSucc).raiseIf st.config.options.notifyAlarms 0x04#7))

/-- A released record that meets a full queue is dropped: its buffer returns to the pool, the starved counter and note
rise by one, the notes stay pending, and the release and the schedule go on as without the drop, in RUNNING and for a
burst of a DRAINING stream, which keeps HEAD while bursts are left. A dropped FILL record changes no buffer, but for
REPEAT with a filled store, which claims a buffer, copies the store into it and gives it back.
The model's choices here: log 8. -/
def Obligations.HeadExpiryStarves : Prop :=
  ∀ (s : State) (n : StreamId) (due : Word),
    s.expiryDue n .head due → (s.stream n).state = .running ∨ (s.stream n).state = .draining →
    (s.stream n).config.q ≤ (s.stream n).queue.length →
    let st := s.stream n
    let starvedNotes : Notes := { st.notes with starved := BitVec.ofNat 16 (min 65535 (st.notes.starved.toNat + 1)) }
    (∀ (b : Burst) (rest : List (Option Burst)), st.window = some b :: rest →
      let u := (({ s with store :=
          { s.store with pool := b.buffer :: s.store.pool } } : State).cancel n .head).setStream n { st with
        head := st.head + 1, headDeadline := due + st.config.p, window := rest ++ [none], notes := starvedNotes,
        repeatStore := s.store.buffers[b.buffer], fillsInRow := 0,
        counters := { st.counters with
          releasedData := st.counters.releasedData + 1, starved := st.counters.starved + 1 }
        changed := true }
      (st.state = .running ∨ (∃ x, some x ∈ rest) → exec (.headExpiry n) s = .next (u.arm n .head (due + st.config.p)))
      ∧ (st.state = .draining → (∀ x, some x ∉ rest) → 1 ≤ st.config.q → exec (.headExpiry n) s = .next u))
    ∧ (∀ rest : List (Option Burst), st.state = .running → st.window = none :: rest → st.fillsInRow < st.config.f →
      let dropped (u : State) : State := ((u.cancel n .head).setStream n { st with
        head := st.head + 1, headDeadline := due + st.config.p, window := rest ++ [none], notes := starvedNotes,
        fillsInRow := st.fillsInRow + 1,
        counters := { st.counters with fillRecords := st.counters.fillRecords + 1, starved := st.counters.starved + 1 }
        changed := true }).arm n .head (due + st.config.p)
      (st.config.fillPolicy ≠ .repeatStore ∨ st.repeatStore = [] → exec (.headExpiry n) s = .next (dropped s))
      ∧ (∀ b pool, st.config.fillPolicy = .repeatStore → st.repeatStore ≠ [] → s.store.pool = b :: pool →
        exec (.headExpiry n) s = .next (dropped
          { s with store := { s.store with buffers := s.store.buffers.set b.val st.repeatStore b.isLt } })))

/-- A SILENCE expiry cuts an ACQUIRING, RUNNING or STALLED stream: window flushed, HEAD cancelled, state CUT, the CUT
note set, and ALARM raised when NOTIFY ALARMS is on. An AGE expiry begins the close of the current page with reason
AGE: the page becomes the closing page, the entry is gone, and nothing else changes.
The model's choices here: log 8. -/
def Obligations.SilenceAndAgeExpiries : Prop :=
  (∀ (s : State) (n : StreamId) (due : Word),
      s.expiryDue n .silence due →
      (s.stream n).state = .acquiring ∨ (s.stream n).state = .running ∨ (s.stream n).state = .stalled →
      let st := s.stream n
      let gone := st.window.filterMap id
      exec (.silenceExpiry n) s = .next (((({ s with store :=
          { s.store with pool := gone.map (fun b => b.buffer) ++ s.store.pool } } : State).cancel n .silence).cancel n
            .head).stateChanged n { st with
          state := .cut
          window := st.window.map (fun _ => none)
          notes := { st.notes with cut := true }
          counters := { st.counters with
            flushed := st.counters.flushed + BitVec.ofNat 32 gone.length, cuts := st.counters.cuts + 1 }
          changed := true } |>.raiseIf st.config.options.notifyAlarms 0x04#7))
  ∧ (∀ (s : State) (n : StreamId) (due : Word) (p : Page),
      s.expiryDue n .age due → (s.page n).current = some p →
      exec (.ageExpiry n) s = .next ((s.cancel n .age).setPage n { s.page n with
        current := none
        closingPage := some { page := p, reason := .age, flushWaits := false, issued := false } }))

/-! ### Links -/

/-- Symbols and line loss in HUNT: the eighth IDLE in a row brings the link UP and raises LINK; every other symbol
sets the idle run to 0 and has no other effect; a line-loss event sets it to 0 and raises nothing. A receiver that is
OFF, and every receiver of a part that is not working, takes no symbol and no line loss.
The model's choices here: logs 3, 18. -/
def Obligations.HuntAndOffSymbols : Prop :=
  (∀ (s : State) (l : LinkId), s.global.working = true → (s.rx l).state = .hunt →
      let r := { s.rx l with lossCount := 0, symbolTaken := true }
      ((s.rx l).idleRun + 1 < 8 → exec (.idleSymbol l) s = .next (s.setRx l { r with idleRun := r.idleRun + 1 }))
      ∧ (8 ≤ (s.rx l).idleRun + 1 →
          ∃ t, exec (.idleSymbol l) s = .next t
            ∧ t = ((s.setRx l (t.rx l)).markDevice).raise 0x08#7
            ∧ (t.rx l).state = .up ∧ (t.rx l).violationRun = 0 ∧ (t.rx l).assembly = .outside
            ∧ t.rx l = { r with
                state := .up, violationRun := 0, assembly := .outside, idleRun := (t.rx l).idleRun, bytes := [],
                check := (t.rx l).check })
      ∧ (∀ c : Instr, (c = .startSymbol l ∨ (∃ v, c = .dataSymbol l v) ∨ c = .endSymbol l ∨ c = .violationSymbol l) →
          exec c s = .next (s.setRx l { r with idleRun := 0 }))
      ∧ exec (.lineLoss l) s = .next (s.setRx l { s.rx l with lossCount := 0, idleRun := 0 }))
  ∧ (∀ (s : State) (l : LinkId) (c : Instr), (s.rx l).state = .off ∨ s.global.working = false →
      (c = .idleSymbol l ∨ c = .startSymbol l ∨ (∃ v, c = .dataSymbol l v) ∨ c = .endSymbol l ∨ c = .violationSymbol l
        ∨ c = .lineLoss l) →
      exec c s = .next s)

/-- Symbols in UP, by the frame assembly, while the violation run stays below eight. Outside a frame the assembly
holds no byte and the check register FFFFFFFFh (the register's value there is the model's choice, log 14).
The model's choices here: log 18. -/
def Obligations.FrameSymbols : Prop :=
  ∀ (s : State) (l : LinkId) (v : Byte), s.global.working = true → (s.rx l).state = .up →
    let r := { s.rx l with lossCount := 0, symbolTaken := true }
    let out := { r with assembly := .outside, bytes := [], check := 0xFFFFFFFF#32, violationRun := 0 }
    let bad (x : Receiver) : Receiver := { x with counters := { x.counters with formatErrors := x.counters.formatErrors + 1 } }
    ((s.rx l).assembly = .outside →
      exec (.idleSymbol l) s = .next (s.setRx l { r with violationRun := 0 })
      ∧ exec (.startSymbol l) s = .next (s.setRx l { out with assembly := .inFrame })
      ∧ ((s.rx l).violationRun + 1 < 8 →
          ∀ c ∈ [Instr.dataSymbol l v, .endSymbol l, .violationSymbol l],
            exec c s = .next (s.setRx l { r with violationRun := r.violationRun + 1 })))
    ∧ ((s.rx l).assembly = .inFrame →
      exec (.idleSymbol l) s = .next ((s.setRx l (bad out)).markDevice)
      ∧ exec (.startSymbol l) s = .next ((s.setRx l (bad { out with assembly := .inFrame })).markDevice)
      ∧ ((s.rx l).bytes.length < 142 →
          exec (.dataSymbol l v) s = .next (s.setRx l { r with
            violationRun := 0, bytes := r.bytes ++ [v], check := crcByte r.check v }))
      ∧ (142 ≤ (s.rx l).bytes.length →
          exec (.dataSymbol l v) s = .next ((s.setRx l (bad { out with assembly := .discarding })).markDevice))
      ∧ ((s.rx l).violationRun + 1 < 8 →
          exec (.violationSymbol l) s = .next ((s.setRx l (bad { out with violationRun := r.violationRun + 1 })).markDevice)))
    ∧ ((s.rx l).assembly = .discarding →
      exec (.idleSymbol l) s = .next (s.setRx l out)
      ∧ exec (.startSymbol l) s = .next (s.setRx l { out with assembly := .inFrame })
      ∧ exec (.dataSymbol l v) s = .next (s.setRx l { r with violationRun := 0 })
      ∧ exec (.endSymbol l) s = .next (s.setRx l out)
      ∧ ((s.rx l).violationRun + 1 < 8 →
          exec (.violationSymbol l) s = .next (s.setRx l { r with violationRun := r.violationRun + 1 })))

/-- END in a frame: the length, flag and frame checks in this order, each failure with its count; a good frame takes a
FREE staging buffer and stands last in the order, or is an overrun. Every field is taken most significant byte first,
sample i at bytes 10 + 2i and 11 + 2i.
The model's choices here: logs 14, 18. -/
def Obligations.EndChecksFrame : Prop :=
  ∀ (s : State) (l : LinkId), s.global.working = true → (s.rx l).state = .up → (s.rx l).assembly = .inFrame →
    let b := (s.rx l).bytes
    let n := (b.getD 8 0).toNat
    let out := { s.rx l with
      lossCount := 0, symbolTaken := true, assembly := .outside, bytes := [], check := 0xFFFFFFFF#32, violationRun := 0 }
    let half (i : Nat) : Half := b.getD i 0 ++ b.getD (i + 1) 0
    let word (i : Nat) : Word := half i ++ half (i + 2)
    let lengthGood := 16 ≤ b.length ∧ 1 ≤ n ∧ n ≤ 64 ∧ b.length = 10 + 2 * n + 4
    let flagsGood := (b.getD 9 0).extractLsb' 2 6 = 0#6
    let checkGood := frameCheck (b.take (10 + 2 * n)) = word (10 + 2 * n)
    let frame : Frame :=
      { tag := half 0, sequence := half 2, originTime := word 4, mark := (b.getD 9 0).getLsbD 0
        test := (b.getD 9 0).getLsbD 1, samples := (List.range n).map (fun i => half (10 + 2 * i)) }
    (¬ (lengthGood ∧ flagsGood) →
      exec (.endSymbol l) s = .next ((s.setRx l { out with
        counters := { out.counters with formatErrors := out.counters.formatErrors + 1 } }).markDevice))
    ∧ (lengthGood → flagsGood → ¬ checkGood →
      exec (.endSymbol l) s = .next ((s.setRx l { out with
        counters := { out.counters with checkErrors := out.counters.checkErrors + 1 } }).markDevice))
    ∧ (lengthGood → flagsGood → checkGood → (∀ i : Fin 2, out.staging[i] ≠ .free) →
      exec (.endSymbol l) s = .next ((s.setRx l { out with
        counters := { out.counters with overruns := out.counters.overruns + 1 } }).markDevice))
    ∧ (lengthGood → flagsGood → checkGood → (∃ i : Fin 2, out.staging[i] = .free) →
      ∃ i : Fin 2, out.staging[i] = .free
        ∧ exec (.endSymbol l) s = .next ((s.setRx l { out with
            staging := out.staging.set i.val (.full frame) i.isLt
            order := out.order ++ [i]
            counters := { out.counters with good := out.counters.good + 1 } }).markDevice))

/-- The eighth violation in a row and a line-loss event take an UP link to HUNT and raise LINK: a partial frame is one
format error and its bytes are gone, the line-loss count and the idle run are 0, the staging buffers stay, and nothing
outside the receiver changes but the device record's flag and CAUSE.
The model's choices here: logs 3, 18. -/
def Obligations.LeaveUp : Prop :=
  ∀ (s : State) (l : LinkId) (c : Instr), s.global.working = true → (s.rx l).state = .up →
    (c = .lineLoss l
      ∨ (7 ≤ (s.rx l).violationRun ∧ c = .violationSymbol l)
      ∨ (7 ≤ (s.rx l).violationRun ∧ (s.rx l).assembly = .outside ∧ ((∃ v, c = .dataSymbol l v) ∨ c = .endSymbol l))) →
    ∃ run check, exec c s = .next (((s.setRx l { s.rx l with
      state := .hunt, assembly := .outside, bytes := [], idleRun := 0, lossCount := 0
      violationRun := run, check := check
      symbolTaken := (s.rx l).symbolTaken || decide (c ≠ .lineLoss l)
      counters := { (s.rx l).counters with
        formatErrors := (s.rx l).counters.formatErrors + if (s.rx l).assembly = .inFrame then 1 else 0 } }).markDevice).raise
          0x08#7)

/-- An accepted SET LINK loads the filter in every link state; enable takes an OFF link to HUNT; disable takes a link
in HUNT or UP to OFF, drops its partial frame and FULL buffers as link-off drops, leaves a HELD buffer, and raises
LINK.
The model's choices here: logs 11, 18. -/
def Obligations.SetLinkByLinkState : Prop :=
  ∀ (s : State) (ref : RecordRef) (l : LinkId) (enable : Bool) (value mask : Half),
    s.requested ref (.setLink l enable value mask) →
    let r := { s.rx l with filterValue := value, filterMask := mask }
    let done (u : State) : State := { u with walker := { s.walker with activity := .finish ref { code := .ok, value := 0 } } }
    ((enable = true ∧ (s.rx l).state ≠ .off) ∨ (enable = false ∧ (s.rx l).state = .off) →
      exec .setLink s = .next (done (s.setRx l r)))
    ∧ (enable = true → (s.rx l).state = .off →
      ∃ t, exec .setLink s = .next (done t)
        ∧ t = (s.setRx l (t.rx l)).markDevice
        ∧ t.rx l = { r with
            state := .hunt, idleRun := 0, lossCount := 0, symbolTaken := false, assembly := .outside, bytes := [],
            check := (t.rx l).check })
    ∧ (enable = false → (s.rx l).state ≠ .off →
      ∃ t, exec .setLink s = .next (done t)
        ∧ t = ((s.setRx l (t.rx l)).markDevice).raise 0x08#7
        ∧ t.rx l = { r with
            state := .off, idleRun := 0, violationRun := 0, lossCount := 0, symbolTaken := false, assembly := .outside,
            bytes := [], check := (t.rx l).check, staging := (t.rx l).staging, order := [], counters := (t.rx l).counters }
        ∧ (∀ i : Fin 2, (t.rx l).staging[i] =
            match (s.rx l).staging[i] with
            | .free => .free
            | .full _ => .free
            | .held f => .held f)
        ∧ (t.rx l).counters = { (s.rx l).counters with
            linkOffDrops := (s.rx l).counters.linkOffDrops
              + BitVec.ofNat 32 ((if (s.rx l).assembly = .inFrame then 1 else 0)
                  + ((s.rx l).staging.toList.filter Staging.isFull).length) })

/-! ### Acceptance -/

/-- A take: links with FULL buffers are served in turn; with none, and while a frame is held, nothing is taken. The
frame is filtered, or routed and checked in order; a discard is counted and frees its buffer; otherwise the unit holds
the frame for its stream.
The model's choices here: log 1. -/
def Obligations.TakeSettlesFrame : Prop :=
  ∀ s : State,
    (s.acceptance.held ≠ none ∨ (s.rxA.order = [] ∧ s.rxB.order = []) → exec .take s = .next s)
    ∧ ∀ (l : LinkId) (i : Fin 2) (rest : List (Fin 2)) (f : Frame), s.takes l i rest f →
      let c := s.acceptance.counters
      let gone (c' : AcceptanceCounters) : State :=
        (({ s with acceptance := { s.acceptance with lastLink := l, counters := c' } } : State).setRx l
          { s.rx l with order := rest, staging := (s.rx l).staging.set i.val .free i.isLt }).markDevice
      let passes : Prop := f.tag &&& (s.rx l).filterMask = (s.rx l).filterValue &&& (s.rx l).filterMask
      (¬ passes → exec .take s = .next (gone
          (if l = .a then { c with filteredA := c.filteredA + 1 } else { c with filteredB := c.filteredB + 1 })))
      ∧ (passes → (∀ (j : Fin 64) (r : Route), s.acceptance.routes[j] = some r → r.tag ≠ f.tag) →
          ∃ g, exec .take s = .next g
            ∧ g = ({ gone { c with
                  strays := c.strays + 1
                  strayOverflows := c.strayOverflows + (if s.acceptance.strays.length < 8 then 0 else 1) } with
                acceptance := g.acceptance } : State).raiseIf s.acceptance.strays.isEmpty 0x10#7
            ∧ g.acceptance = { s.acceptance with
                lastLink := l
                counters := { c with
                  strays := c.strays + 1
                  strayOverflows := c.strayOverflows + (if s.acceptance.strays.length < 8 then 0 else 1) }
                strays := (if s.acceptance.strays.length < 8 then s.acceptance.strays else s.acceptance.strays.drop 1)
                  ++ [{ tag := f.tag, sequence := f.sequence, length := f.samples.length, link := l,
                        arrival := s.time.tick }] })
      ∧ (∀ (j : Fin 64) (r : Route), passes → s.routesUnique → s.acceptance.routes[j] = some r → r.tag = f.tag →
          let admits : Prop := r.mask.getLsbD (if l = .a then 0 else 1) = true
          let closed : Prop := (s.stream r.stream).state = .closed
          let tested : Prop := f.test = true ∧ (s.stream r.stream).config.options.acceptTest = false
          (¬ admits → exec .take s = .next (gone { c with wrongLink := c.wrongLink + 1 }))
          ∧ (admits → closed → exec .take s = .next (gone { c with closedStream := c.closedStream + 1 }))
          ∧ (admits → ¬ closed → tested → exec .take s = .next (gone { c with testDiscards := c.testDiscards + 1 }))
          ∧ (admits → ¬ closed → ¬ tested → exec .take s = .next
              (({ s with acceptance := { s.acceptance with
                  lastLink := l, held := some { link := l, index := i, frame := f, stream := r.stream } } } : State).setRx l
                { s.rx l with order := rest, staging := (s.rx l).staging.set i.val (.held f) i.isLt })))

/-- An offer to a CLOSED or DRAINING stream is refused and counted closed-stream; a stream that waits for MARK counts
an unmarked burst unsynced. Nothing else of the stream changes, and the unit and the buffer are free. An offer to a
RUNNING stream within the window, or late: a full slot makes it duplicate, an empty one stores it, and an offset of
32,768 or more is late.
The model's choices here: log 8. -/
def Obligations.OfferWithoutAnchoring : Prop :=
  (∀ (s : State) (h : HeldFrame), s.offers h →
      let st := s.stream h.stream
      let u := s.offerEnds h
      (st.state = .closed ∨ st.state = .draining →
        exec .offer s = .next (({ u with acceptance := { u.acceptance with
          counters := { u.acceptance.counters with
            closedStream := u.acceptance.counters.closedStream + 1 } } } : State).markDevice).advanceStop)
      ∧ (st.state = .acquiring ∨ st.state = .stalled ∨ st.state = .cut → st.config.options.markSync = true →
          h.frame.mark = false →
          exec .offer s = .next (u.setStream h.stream { st with
            counters := { st.counters with unsynced := st.counters.unsynced + 1 }, changed := true }).advanceStop))
  ∧ (∀ (s : State) (h : HeldFrame), s.offers h →
      let n := h.stream
      let st := s.stream n
      let o := (h.frame.sequence - st.head).toNat
      st.state = .running →
      (∀ x, o < st.config.w → st.window[o]? = some (some x) →
        exec .offer s = .next ((s.offerEnds h).setStream n { st with
          counters := { st.counters with duplicate := st.counters.duplicate + 1 }, changed := true }).advanceStop)
      ∧ (∀ b pool, o < st.config.w → st.window[o]? = some none → s.store.pool = b :: pool →
        let m := st.headDeadline + BitVec.ofNat 32 o * st.config.p - s.time.tick
        exec .offer s = .next ((((s.offerEnds h).filled b pool h.frame.samples).setStream n { st with
          window := st.window.set o (some (h.burst b s.time.tick))
          earlyRun := 0
          minMargin := if m.slt st.minMargin then m else st.minMargin
          changed := st.changed || m.slt st.minMargin }).silenceAfter n st.config.silence s.time.tick).advanceStop)
      ∧ (st.config.w ≤ o → 32768 ≤ o →
        exec .offer s = .next ((s.offerEnds h).setStream n { st with
          counters := { st.counters with late := st.counters.late + 1 }, changed := true }).advanceStop))

/-- An offer that anchors an ACQUIRING, STALLED or CUT stream.
The model's choices here: log 8. -/
def Obligations.OfferAnchors : Prop :=
  ∀ (s : State) (h : HeldFrame) (b : BufferId) (pool : List BufferId),
    s.offers h → s.store.pool = b :: pool →
    let n := h.stream
    let st := s.stream n
    let d := st.config.d
    st.state = .acquiring ∨ st.state = .stalled ∨ st.state = .cut →
    (st.config.options.markSync = true → h.frame.mark = true) →
    exec .offer s = .next ((((((s.offerEnds h).filled b pool h.frame.samples).setStream n { st with
        state := .running
        head := h.frame.sequence
        headDeadline := s.time.tick + d
        anchoredOnce := true
        fillsInRow := 0
        earlyRun := 0
        window := st.window.set 0 (some (h.burst b s.time.tick))
        notes := { st.notes with resync := st.notes.resync || st.anchoredOnce }
        counters := { st.counters with resyncs := st.counters.resyncs + (if st.anchoredOnce then 1 else 0) }
        minMargin := if d.slt st.minMargin then d else st.minMargin
        changed := true }).join n.castSucc).arm n .head
          (s.time.tick + d)).silenceAfter n st.config.silence s.time.tick).advanceStop

/-- An early offer is counted; below K early bursts in a row, or with K 0, that is all; at K the window is flushed and
the stream anchors on the burst, or goes ACQUIRING on an unmarked burst under MARK SYNC; ALARM is raised if enabled.
The model's choices here: log 8. -/
def Obligations.OfferEarlyAndResync : Prop :=
  ∀ (s : State) (h : HeldFrame), s.offers h →
    let n := h.stream
    let st := s.stream n
    let o := (h.frame.sequence - st.head).toNat
    let run := min 15 (st.earlyRun + 1)
    let gone := st.window.filterMap id
    let back := gone.map (fun b => b.buffer) ++ s.store.pool
    let flushed := st.counters.flushed + BitVec.ofNat 32 gone.length
    let d := st.config.d
    st.state = .running → st.earlyRun ≤ 15 → st.config.w ≤ o → o < 32768 →
    (st.config.k = 0 ∨ run < st.config.k →
      exec .offer s = .next ((s.offerEnds h).setStream n { st with
        earlyRun := run, counters := { st.counters with early := st.counters.early + 1 }, changed := true }).advanceStop)
    ∧ (st.config.k ≠ 0 → st.config.k ≤ run → st.config.options.markSync = true → h.frame.mark = false →
      let v := s.offerEnds h
      exec .offer s = .next ((((({ v with store := { v.store with pool := back } } : State).cancel n .head).setStream n
        { st with
          state := .acquiring, earlyRun := 0, window := st.window.map (fun _ => none)
          counters := { st.counters with early := st.counters.early + 1, flushed := flushed }
          changed := true }).join n.castSucc).raiseIf st.config.options.notifyAlarms 0x04#7).advanceStop)
    ∧ (∀ b pool, st.config.k ≠ 0 → st.config.k ≤ run → (st.config.options.markSync = true → h.frame.mark = true) →
      back = b :: pool →
      exec .offer s = .next ((((((s.offerEnds h).filled b pool h.frame.samples).setStream n { st with
          head := h.frame.sequence, headDeadline := s.time.tick + d, anchoredOnce := true, fillsInRow := 0, earlyRun := 0
          window := (st.window.map (fun _ => none)).set 0 (some (h.burst b s.time.tick))
          notes := { st.notes with resync := st.notes.resync || st.anchoredOnce }
          counters := { st.counters with
            early := st.counters.early + 1, flushed := flushed
            resyncs := st.counters.resyncs + (if st.anchoredOnce then 1 else 0) }
          minMargin := if d.slt st.minMargin then d else st.minMargin
          changed := true }).arm n .head (s.time.tick + d)).silenceAfter n st.config.silence s.time.tick).raiseIf
        st.config.options.notifyAlarms 0x04#7).advanceStop)

/-- SET ROUTE sets the entry, or is refused CONFLICT with the index of the other entry that carries the tag; CLEAR
ROUTE makes a valid entry invalid, or is NOTHING. READ STRAYS empties the list and has its entries written 16 bytes
apart, oldest first; the last write's completion answers their number.
The model's choices here: logs 5, 7, 11, 22. -/
def Obligations.AcceptanceOrders : Prop :=
  ∀ (s : State) (ref : RecordRef),
    let routes := s.acceptance.routes
    (∀ (i : Fin 64) (r : Route), s.requested ref (.setRoute i r) →
      ((∀ (j : Fin 64) (x : Route), j ≠ i → routes[j] = some x → x.tag ≠ r.tag) →
        exec .setRoute s = .next (({ s with acceptance := { s.acceptance with
          routes := routes.set i.val (some r) i.isLt } } : State).answered ref .ok 0))
      ∧ (∀ (j : Fin 64) (x : Route), s.routesUnique → j ≠ i → routes[j] = some x → x.tag = r.tag →
        exec .setRoute s = .next (s.answered ref .conflict (BitVec.ofNat 32 j.val))))
    ∧ (∀ i : Fin 64, s.requested ref (.clearRoute i) →
      (routes[i] = none → exec .clearRoute s = .next (s.answered ref .nothing 0))
      ∧ (∀ x, routes[i] = some x →
        exec .clearRoute s = .next (({ s with acceptance := { s.acceptance with
          routes := routes.set i.val none i.isLt } } : State).answered ref .ok 0)))
    ∧ (∀ buffer : Word, s.requested ref (.readStrays buffer) →
      (s.acceptance.strays = [] → exec .readStrays s = .next (s.answered ref .ok 0))
      ∧ (s.acceptance.strays ≠ [] →
        ∃ txs : List Tx,
          exec .readStrays s = .next { s with
            acceptance := { s.acceptance with strays := [] }
            walker := { s.walker with
              activity := .strays ref txs (BitVec.ofNat 32 s.acceptance.strays.length) } }
          ∧ txs.length = s.acceptance.strays.length
          ∧ ∀ i, (h : i < txs.length) → (h' : i < s.acceptance.strays.length) →
              txs[i] = { addr := buffer + BitVec.ofNat 32 (16 * i), body := .write s.acceptance.strays[i].bytes,
                         role := .strayEntry (decide (i + 1 = txs.length)) }))
    ∧ (∀ (tx : Tx) (todo : List Tx) (count : Word), s.flying tx → tx.role = .strayEntry true →
      tx.body.data.length ≤ 64 → s.walker.activity = .strays ref todo count →
      ∃ u, s.written tx u ∧ exec .strayEntryWriteComplete s = .next (u.answered ref .ok count))

/-! ### The Order Walker -/

/-- A link word read: 0 parks the walker, or with a sweep pending reads the cursor once more; a nonzero 64-aligned
address is fetched; any other value is a BAD LINK fault at the cursor. In STOPPING the value is not acted on.
The model's choices here: logs 22, 24. -/
def Obligations.LinkReadOutcomes : Prop :=
  ∀ (s : State) (a v : Word) (k : Nat),
    s.port.flight = some { tx := { addr := a, body := .read 4, role := .linkRead }, periods := k } →
    let u := s.portFreed
    (s.global = .active →
      (v = 0 → s.walker.sweepPending = true →
        exec (.linkReadComplete v) s = .next { u with walker := { s.walker with
          sweepPending := false, activity := .linkRead } })
      ∧ (v = 0 → s.walker.sweepPending = false →
        exec (.linkReadComplete v) s = .next { u with walker := { s.walker with state := .parked, activity := .idle } })
      ∧ (v ≠ 0 → v.toNat % 64 = 0 →
        exec (.linkReadComplete v) s = .next { u with walker := { s.walker with activity := .fetch v } })
      ∧ (v.toNat % 64 ≠ 0 →
        exec (.linkReadComplete v) s = .next { u with
          global := .faulted, faultReason := .badLink, faultAddr := s.walker.cursor, cause := s.cause ||| 0x40#7 }))
    ∧ (∀ p, s.global = .stopping p →
      exec (.linkReadComplete v) s = .next
        ({ u with walker := { s.walker with activity := .idle } } : State).advanceStop)

/-- A fetched record: one that is not POSTED is refused BAD STATE with its state; a code that names no order is
refused BAD CODE; a one-field order goes to its owner, or is refused BAD FIELD 1; a BARRIER has no field.
The model's choices here: logs 11, 22. -/
def Obligations.OrderFetchChecks : Prop :=
  ∀ (s : State) (a : Word) (k : Nat) (r : BitVec 512), s.global.working = true →
    s.port.flight = some { tx := { addr := a, body := .read 64, role := .orderFetch }, periods := k } →
    s.walker.activity = .fetch a →
    let byte (i : Nat) : Byte := r.extractLsb' (8 * i) 8
    let ref : RecordRef := { addr := a, code := byte 1, flags := byte 2, spare := byte 3 }
    let u := s.portFreed
    let request (o : Order) : State := { u with walker := { s.walker with activity := .request ref o } }
    (byte 0 ≠ 1 → exec (.orderFetchComplete r) s = .next (u.answered ref .badState ((byte 0).zeroExtend 32)))
    ∧ (byte 0 = 1 → byte 1 = 0 ∨ 11 < (byte 1).toNat →
        exec (.orderFetchComplete r) s = .next (u.answered ref .badCode ((byte 1).zeroExtend 32)))
    ∧ (byte 0 = 1 → byte 1 = 11 → exec (.orderFetchComplete r) s = .next (request .barrier))
    ∧ (byte 0 = 1 → byte 1 = 5 ∨ byte 1 = 7 → 64 ≤ (byte 16).toNat →
        exec (.orderFetchComplete r) s = .next (u.answered ref .badField 1))
    ∧ (∀ n : Fin 64, byte 0 = 1 → (byte 16).toNat = n.val →
        (byte 1 = 5 → exec (.orderFetchComplete r) s = .next (request (.flushPage n)))
        ∧ (byte 1 = 7 → exec (.orderFetchComplete r) s = .next (request (.clearRoute n))))
    ∧ (byte 0 = 1 → byte 1 = 10 →
        let buffer := r.extractLsb' 128 32
        (buffer ≠ 0 → buffer.toNat % 64 = 0 → exec (.orderFetchComplete r) s = .next (request (.readStrays buffer)))
        ∧ (buffer = 0 ∨ buffer.toNat % 64 ≠ 0 →
            exec (.orderFetchComplete r) s = .next (u.answered ref .badField 1)))

/-- The field check of OPEN STREAM: refused BAD FIELD with the number of the first field out of range, or passed to
the Stream Engine with every field of its record.
The model's choices here: logs 11, 22. -/
def Obligations.OpenStreamFieldCheck : Prop :=
  ∀ (s : State) (a : Word) (k : Nat) (r : BitVec 512), s.global.working = true →
    s.port.flight = some { tx := { addr := a, body := .read 64, role := .orderFetch }, periods := k } →
    s.walker.activity = .fetch a →
    let byte (i : Nat) : Byte := r.extractLsb' (8 * i) 8
    let half (i : Nat) : Half := r.extractLsb' (8 * i) 16
    let word (i : Nat) : Word := r.extractLsb' (8 * i) 32
    let ref : RecordRef := { addr := a, code := byte 1, flags := byte 2, spare := byte 3 }
    let w := (byte 17).toNat
    let p := (word 28).toNat
    let d := (word 32).toNat
    let good (field : Nat) : Prop :=
      (field = 1 → (byte 16).toNat < 64) ∧ (field = 2 → 2 ≤ w ∧ w ≤ 16)
      ∧ (field = 3 → 1 ≤ (byte 18).toNat ∧ (byte 18).toNat ≤ 8)
      ∧ (field = 4 → 1 ≤ (byte 19).toNat ∧ (byte 19).toNat ≤ 64)
      ∧ (field = 5 → (byte 20).toNat ≤ 3) ∧ (field = 6 → (byte 21).toNat ≤ 2)
      ∧ (field = 8 → (byte 24).toNat ≤ 15) ∧ (field = 9 → (byte 25).toNat ≤ 15)
      ∧ (field = 10 → 1 ≤ p ∧ p ≤ 1048575) ∧ (field = 11 → p ≤ d ∧ d ≤ w * p)
      ∧ (field = 14 → (byte 26).toNat < 16)
    byte 0 = 1 → byte 1 = 1 →
    (∀ j, ¬ good j → (∀ i, i < j → good i) →
      exec (.orderFetchComplete r) s = .next (s.portFreed.answered ref .badField (BitVec.ofNat 32 j)))
    ∧ (∀ n : Fin 64, (∀ j, good j) → (byte 16).toNat = n.val →
      exec (.orderFetchComplete r) s = .next { s.portFreed with walker := { s.walker with
        activity := .request ref (.openStream n
          { w := w, q := (byte 18).toNat, l := (byte 19).toNat, p := word 28, d := word 32, sizeCode := (byte 20).toNat
            fillPolicy :=
              if byte 21 = 0 then .constant
              else if byte 21 = 1 then .repeatStore
              else .markOnly
            fillWord := half 22, f := (byte 24).toNat, k := (byte 25).toNat, silence := half 36, ageLimit := half 38
            options := { markSync := (byte 26).getLsbD 0, acceptTest := (byte 26).getLsbD 1,
                         notifyPages := (byte 26).getLsbD 2, notifyAlarms := (byte 26).getLsbD 3 } }) } })

/-- A POSTED record of each other order whose fields are in range reaches its owner with every field of its table.
The model's choices here: logs 11, 22. -/
def Obligations.OrderFieldsReachOwner : Prop :=
  ∀ (s : State) (a : Word) (k : Nat) (r : BitVec 512), s.global.working = true →
    s.port.flight = some { tx := { addr := a, body := .read 64, role := .orderFetch }, periods := k } →
    s.walker.activity = .fetch a →
    let byte (i : Nat) : Byte := r.extractLsb' (8 * i) 8
    let half (i : Nat) : Half := r.extractLsb' (8 * i) 16
    let word (i : Nat) : Word := r.extractLsb' (8 * i) 32
    let ref : RecordRef := { addr := a, code := byte 1, flags := byte 2, spare := byte 3 }
    let request (o : Order) : State := { s.portFreed with walker := { s.walker with activity := .request ref o } }
    let mask := byte 17
    let flag : Bool := decide (byte 17 = 1)
    let policy : FillPolicy := if byte 18 = 0 then .constant else if byte 18 = 1 then .repeatStore else .markOnly
    byte 0 = 1 →
    (∀ n : Fin 64, (byte 16).toNat = n.val →
      (byte 1 = 2 → (byte 17).toNat ≤ 1 → exec (.orderFetchComplete r) s = .next (request (.closeStream n flag)))
      ∧ (byte 1 = 3 → mask.getLsbD 7 = false → (mask.getLsbD 0 = true → (byte 18).toNat ≤ 2) →
          (mask.getLsbD 2 = true → (byte 19).toNat ≤ 15) → (mask.getLsbD 3 = true → (byte 22).toNat ≤ 15) →
          (mask.getLsbD 6 = true → (byte 23).toNat < 16) →
          exec (.orderFetchComplete r) s = .next (request (.alterStream n
            { fillPolicy := if mask.getLsbD 0 then some policy else none
              fillWord := if mask.getLsbD 1 then some (half 20) else none
              f := if mask.getLsbD 2 then some (byte 19).toNat else none
              k := if mask.getLsbD 3 then some (byte 22).toNat else none
              silence := if mask.getLsbD 4 then some (half 24) else none
              ageLimit := if mask.getLsbD 5 then some (half 26) else none
              options := if mask.getLsbD 6 then
                  some { markSync := (byte 23).getLsbD 0, acceptTest := (byte 23).getLsbD 1,
                         notifyPages := (byte 23).getLsbD 2, notifyAlarms := (byte 23).getLsbD 3 }
                else none })))
      ∧ (byte 1 = 4 → 1 ≤ (byte 17).toNat → (byte 17).toNat ≤ 8 →
          (∀ i, i < (byte 17).toNat → word (20 + 4 * i) ≠ 0 ∧ (word (20 + 4 * i)).toNat % 64 = 0) →
          exec (.orderFetchComplete r) s = .next (request (.attachPages n
            ((List.range (byte 17).toNat).map (fun i => word (20 + 4 * i))))))
      ∧ (∀ m : Fin 64, byte 1 = 6 → 1 ≤ (byte 17).toNat → (byte 17).toNat ≤ 3 → (byte 20).toNat = m.val →
          exec (.orderFetchComplete r) s = .next (request (.setRoute n
            { tag := half 18, mask := (byte 17).extractLsb' 0 2, stream := m }))))
    ∧ (byte 1 = 8 → (byte 16).toNat ≤ 1 → (byte 17).toNat ≤ 1 →
        exec (.orderFetchComplete r) s = .next (request
          (.setLink (if byte 16 = 0 then .a else .b) flag (half 18) (half 20))))
    ∧ (byte 1 = 9 → (byte 17).toNat ≤ 1 →
        (∀ i : Fin 65, (byte 16).toNat = i.val →
          exec (.orderFetchComplete r) s = .next (request (.writeTally (.one i) flag)))
        ∧ ((byte 16).toNat = 255 → exec (.orderFetchComplete r) s = .next (request (.writeTally .all flag))))

/-- The field checks of CLOSE STREAM, ALTER STREAM, ATTACH PAGES, SET ROUTE, SET LINK and WRITE TALLY: a POSTED record
is refused BAD FIELD with the number of the first field out of range. ALTER STREAM tests a field only if its mask bit
is set, ATTACH PAGES only the addresses its count takes in.
The model's choices here: logs 11, 22. -/
def Obligations.OrderFieldRefusals : Prop :=
  ∀ (s : State) (a : Word) (k : Nat) (r : BitVec 512), s.global.working = true →
    s.port.flight = some { tx := { addr := a, body := .read 64, role := .orderFetch }, periods := k } →
    s.walker.activity = .fetch a →
    let byte (i : Nat) : Byte := r.extractLsb' (8 * i) 8
    let num (i : Nat) : Nat := (byte i).toNat
    let word (i : Nat) : Word := r.extractLsb' (8 * i) 32
    let ref : RecordRef := { addr := a, code := byte 1, flags := byte 2, spare := byte 3 }
    let mask := byte 17
    let refusesBy (good : Nat → Prop) : Prop := ∀ j, ¬ good j → (∀ i, i < j → good i) →
      exec (.orderFetchComplete r) s = .next (s.portFreed.answered ref .badField (BitVec.ofNat 32 j))
    byte 0 = 1 →
    (byte 1 = 2 → refusesBy (fun f => (f = 1 → num 16 < 64) ∧ (f = 2 → num 17 ≤ 1)))
    ∧ (byte 1 = 3 → refusesBy (fun f => (f = 1 → num 16 < 64) ∧ (f = 2 → mask.getLsbD 7 = false)
        ∧ (f = 3 → mask.getLsbD 0 = true → num 18 ≤ 2) ∧ (f = 5 → mask.getLsbD 2 = true → num 19 ≤ 15)
        ∧ (f = 6 → mask.getLsbD 3 = true → num 22 ≤ 15) ∧ (f = 9 → mask.getLsbD 6 = true → num 23 < 16)))
    ∧ (byte 1 = 4 → refusesBy (fun f => (f = 1 → num 16 < 64) ∧ (f = 2 → 1 ≤ num 17 ∧ num 17 ≤ 8)
        ∧ ∀ i, i < num 17 → f = 3 + i → word (20 + 4 * i) ≠ 0 ∧ (word (20 + 4 * i)).toNat % 64 = 0))
    ∧ (byte 1 = 6 → refusesBy (fun f => (f = 1 → num 16 < 64) ∧ (f = 3 → 1 ≤ num 17 ∧ num 17 ≤ 3) ∧ (f = 4 → num 20 < 64)))
    ∧ (byte 1 = 8 → refusesBy (fun f => (f = 1 → num 16 ≤ 1) ∧ (f = 2 → num 17 ≤ 1)))
    ∧ (byte 1 = 9 → refusesBy (fun f => (f = 1 → num 16 ≤ 64 ∨ num 16 = 255) ∧ (f = 2 → num 17 ≤ 1)))

/-- A BARRIER completes at once with no drain held; otherwise it is held and TAKEN is to be written. WRITE TALLY makes
each named record a member of the tally-pending set with the order mark, and the zero mark if asked or already set;
the walker waits.
The model's choices here: log 11. -/
def Obligations.BarrierAndWriteTallyTaken : Prop :=
  (∀ (s : State) (ref : RecordRef), s.requested ref .barrier →
      (s.walker.held = [] → exec .barrier s = .next (s.answered ref .ok 0))
      ∧ (s.walker.held ≠ [] → exec .barrier s = .next { s with walker := { s.walker with
          heldBarrier := some { ref := ref, takenWritten := false, settled := false }
          activity := .taken ref .barrier } }))
  ∧ (∀ (s : State) (ref : RecordRef) (target : TallyTarget) (zero : Bool), s.requested ref (.writeTally target zero) →
      ∃ t count, exec .writeTally s = .next t
        ∧ t = { s with
            tally := { s.tally with pending := t.tally.pending }
            walker := { s.walker with activity := .waitTally ref count } }
        ∧ (count = if target = .all then 65 else 1)
        ∧ ∀ i : Fin 65,
            (target = .all ∨ target = .one i →
              t.tally.pending[i] = some
                { zero := zero || (match s.tally.pending[i] with
                                   | some m => m.zero
                                   | none => false), order := true })
            ∧ (¬ (target = .all ∨ target = .one i) → t.tally.pending[i] = s.tally.pending[i]))

/-- The completion of an outcome's state write: a final state is counted in the device record and raises ORDER with
NOTIFY; the walker moves on to the record's link word, but for a held BARRIER; a drain leaves the held orders, and in
ACTIVE the last one completes the held barrier.
The model's choices here: logs 7, 15, 22. -/
def Obligations.OutcomeStateWritten : Prop :=
  ∀ (s : State) (tx : Tx) (final : Bool) (o : OutcomeWrite), s.flying tx → tx.role = .outcomeState final →
    tx.body.data.length ≤ 64 → s.walker.writing = some o →
    let w := { s.walker with writing := none }
    let next : Activity := if s.global = .active then .linkRead else .idle
    let counted (w : Walker) (r : Result) : Walker :=
      if r.code ∈ [ResultCode.ok, .nothing, .overtaken, .somePart] then { w with ordersDone := w.ordersDone + 1 }
      else { w with ordersRefused := w.ordersRefused + 1 }
    let ends (u : State) (w' : Walker) : State :=
      (({ u with walker := w' } : State).markDevice).raiseIf (o.ref.flags.getLsbD 0) 0x01#7
    ∃ u, s.written tx u
      ∧ (∀ n, o.kind = .taken (.drain n) →
          exec .outcomeStateWriteComplete s = .next ({ u with walker := { w with
            held := w.held.map (fun h => if h.stream = n ∧ h.ref = o.ref then { h with takenWritten := true } else h)
            cursor := o.ref.addr + 12, activity := next } } : State).advanceStop)
      ∧ (o.kind = .taken .barrier →
          exec .outcomeStateWriteComplete s = .next ({ u with walker := { w with
            heldBarrier := w.heldBarrier.map (fun b => { b with takenWritten := true })
            state := .barrierWait, cursor := o.ref.addr + 12, activity := .idle } } : State).advanceStop)
      ∧ (∀ r, o.kind = .final r none →
          exec .outcomeStateWriteComplete s = .next
            (ends u { counted w r with cursor := o.ref.addr + 12, activity := next }).advanceStop)
      ∧ (∀ r n, o.kind = .final r (some (.drain n)) →
          let left := w.held.filter (fun h => !(h.stream == n && h.settled))
          (left ≠ [] ∨ s.global ≠ .active ∨ s.walker.heldBarrier = none →
            exec .outcomeStateWriteComplete s = .next (ends u { counted w r with held := left }).advanceStop)
          ∧ (∀ b, left = [] → s.global = .active → s.walker.heldBarrier = some b → b.settled = false →
            exec .outcomeStateWriteComplete s = .next (ends u { counted w r with
              held := []
              heldBarrier := some { b with settled := true }
              outcomes := w.outcomes ++
                [{ ref := b.ref, result := { code := .ok, value := 0 }, source := .barrier }] })))
      ∧ (∀ r, o.kind = .final r (some .barrier) →
          (s.global = .active → exec .outcomeStateWriteComplete s = .next (ends u { counted w r with
            heldBarrier := none, state := .walking, cursor := o.ref.addr + 12, activity := .linkRead }))
          ∧ (s.global ≠ .active → exec .outcomeStateWriteComplete s = .next
              (ends u { counted w r with heldBarrier := none }).advanceStop))

/-! ### Stream orders -/

/-- OPEN STREAM: BUSY with the state's code unless the stream is CLOSED; NO ROOM when the reservations would pass 512;
else the stream is set up with the record's configuration and its counters are kept.
The model's choices here: logs 11, 28. -/
def Obligations.OpenStreamEffect : Prop :=
  ∀ (s : State) (ref : RecordRef) (n : StreamId) (c : StreamConfig), s.requested ref (.openStream n c) →
    let st := s.stream n
    (st.state ≠ .closed → exec .openStream s = .next (s.answered ref .busy (st.state.code.zeroExtend 32)))
    ∧ (st.state = .closed → st.closing = none → 512 < s.store.reserved + (c.w + c.q) →
        exec .openStream s = .next (s.answered ref .noRoom 0))
    ∧ (st.state = .closed → st.closing = none → s.store.reserved + (c.w + c.q) ≤ 512 →
        exec .openStream s = .next (((((({ s with store := { s.store with
            reserved := s.store.reserved + (c.w + c.q) } } : State).setStream n
          { state := .acquiring, config := c, head := 0, headDeadline := 0, anchoredOnce := false, fillsInRow := 0
            earlyRun := 0, window := List.replicate c.w none, notes := .clear, queue := [], repeatStore := []
            closing := none, counters := st.counters, minMargin := st.minMargin, changed := st.changed }).setPage n
          { supply := [], current := none, closingPage := none, serial := 0 }).join n.castSucc).silenceAfter n c.silence
            s.time.tick).answered ref .ok 0))

/-- CLOSE STREAM by the table of stream states, drain and immediate: NOT OPEN on CLOSED, a second drain BUSY, an
immediate close of a closing stream BUSY. An accepted drain is held, TAKEN is to be written, SILENCE is cancelled,
HEAD too on an empty window, and the stream is DRAINING; it closes when its window and queue are empty.
The model's choices here: log 11. -/
def Obligations.DrainCloseByState : Prop :=
  ∀ (s : State) (ref : RecordRef) (n : StreamId),
    let st := s.stream n
    (s.requested ref (.closeStream n false) →
      (st.state = .closed → exec .immediateClose s = .next (s.answered ref .notOpen 0))
      ∧ (st.state ≠ .closed → st.closing ≠ none →
          exec .immediateClose s = .next (s.answered ref .busy (st.state.code.zeroExtend 32))))
    ∧ (s.requested ref (.closeStream n true) →
      (st.state = .closed → exec .drainClose s = .next (s.answered ref .notOpen 0))
      ∧ (st.state = .draining → exec .drainClose s = .next (s.answered ref .busy 5))
      ∧ (st.state ∈ [StreamState.acquiring, .running, .stalled, .cut] →
          let v := (({ s with walker := { s.walker with
            held := s.walker.held ++ [{ ref := ref, stream := n, takenWritten := false, settled := false }]
            activity := .taken ref (.drain n) } } : State).cancel n .silence)
          let empty : Prop := ∀ x ∈ st.window, x = none
          let drained (x : State) : State := x.stateChanged n { st with state := .draining, changed := true }
          (¬ empty → exec .drainClose s = .next (drained v))
          ∧ (empty → st.queue ≠ [] → exec .drainClose s = .next (drained (v.cancel n .head)))
          ∧ (empty → st.queue = [] → st.closing = none → (∀ t, s.lane.op ≠ some (.record n t)) →
              exec .drainClose s = .next ((drained (v.cancel n .head)).beginClosing n .close))))

/-- An accepted immediate close flushes the window and the queue, cancels HEAD and SILENCE, makes the stream DRAINING
and begins its closing sequence; a record in flight stays in the queue.
The model's choices here: logs 8, 11. -/
def Obligations.ImmediateCloseFlushes : Prop :=
  ∀ (s : State) (ref : RecordRef) (n : StreamId), s.requested ref (.closeStream n false) →
    (s.stream n).state ≠ .closed → (s.stream n).closing = none →
    exec .immediateClose s = .next
      ((({ s with walker := { s.walker with activity := .waitClose ref n } } : State).flushedOut n).beginClosing n .close)

/-- The closing sequence, step by step: it waits for a lane operation of the stream, then for its last page's close,
then for the return of its supply; at the end the reservation and notes go, the stream is CLOSED, and the held drain
and the immediate close that wait for it get their outcomes.
The model's choices here: logs 23, 26. -/
def Obligations.ClosingSequenceSteps : Prop :=
  ∀ (s : State) (n : StreamId) (reason : CloseReason) (count : Nat),
    let st := s.stream n
    let pg := s.page n
    let waits (c : Closing) (phase : ClosePhase) (u : State) : State :=
      u.setStream n { st with closing := some { c with phase := phase } }
    (s.laneBusyWith n = true → s.beginClosing n reason =
        s.setStream n { st with closing := some { reason := reason, phase := .waitLane, returned := 0 } })
    ∧ (s.laneBusyWith n = false → s.beginClosing n reason =
        (s.setStream n { st with closing := some { reason := reason, phase := .waitLane, returned := 0 } }).closeStep2 n
          reason)
    ∧ (∀ c p, st.closing = some c → pg.closingPage = some p → s.closeStep2 n reason =
        waits c .waitClose (s.setPage n { pg with closingPage := some { p with reason := reason } }))
    ∧ (∀ c p, st.closing = some c → pg.closingPage = none → pg.current = some p → s.closeStep2 n reason =
        waits c .waitClose ((s.setPage n { pg with
          current := none
          closingPage := some { page := p, reason := reason, flushWaits := false, issued := false } }).cancel n .age))
    ∧ (pg.closingPage = none → pg.current = none → s.closeStep2 n reason =
        (s.setStream n { st with notes := .clear }).closeStep3 n)
    ∧ (∀ c, st.closing = some c → pg.supply ≠ [] → s.closeStep3 n = waits c .returnDue s)
    ∧ (pg.supply = [] → s.closeStep3 n = s.closeStep4 n 0)
    ∧ (let v := ({ s with store := { s.store with
            reserved := s.store.reserved - (st.config.w + st.config.q) } } : State).setStream n
          { st with
            state := .closed, notes := .clear, closing := none, changed := st.changed || st.state != .closed }
       let told (w : Walker) : State :=
         { (if st.state = .closed then v else v.join n.castSucc) with walker := w }
       let none_held : Prop := ∀ h ∈ s.walker.held, ¬ (h.stream = n ∧ h.settled = false)
       ((none_held → (∀ ref, s.walker.activity ≠ .waitClose ref n) → s.closeStep4 n count = told s.walker)
        ∧ (none_held → ∀ ref, s.walker.activity = .waitClose ref n → s.closeStep4 n count =
            told { s.walker with activity := .finish ref { code := .ok, value := BitVec.ofNat 32 count } })
        ∧ (∀ pre h post, s.walker.held = pre ++ h :: post → h.stream = n → h.settled = false →
            (∀ x ∈ pre ++ post, ¬ (x.stream = n ∧ x.settled = false)) →
            let settled := pre ++ { h with settled := true } :: post
            let out (result : Result) : List OutcomeEntry :=
              s.walker.outcomes ++ [{ ref := h.ref, result := result, source := .drain n }]
            ((∀ ref, s.walker.activity ≠ .waitClose ref n) → s.closeStep4 n count =
              told { s.walker with
                held := settled, outcomes := out { code := .ok, value := BitVec.ofNat 32 count } })
            ∧ (∀ ref, s.walker.activity = .waitClose ref n → s.closeStep4 n count =
              told { s.walker with
                held := settled, outcomes := out { code := .overtaken, value := 0 }
                activity := .finish ref { code := .ok, value := BitVec.ofNat 32 count } }))))

/-- ALTER STREAM: NOT OPEN on a CLOSED stream and in its closing sequence; else the selected fields are replaced, a
selected silence period re-arms or cancels SILENCE in ACQUIRING, RUNNING and STALLED, and a selected age limit re-arms
or cancels AGE when the current page holds a record. Nothing else changes.
The model's choices here: log 11. -/
def Obligations.AlterStreamEffect : Prop :=
  ∀ (s : State) (ref : RecordRef) (n : StreamId) (a : Alteration), s.requested ref (.alterStream n a) →
    let st := s.stream n
    let measured : Prop := st.state = .acquiring ∨ st.state = .running ∨ st.state = .stalled
    let aged : Prop := ∃ p, (s.page n).current = some p ∧ 1 ≤ p.count
    let due (v : Half) : Option Word :=
      if v = 0 then none else some (s.time.tick + BitVec.ofNat 32 (1000 * v.toNat))
    (st.state = .closed ∨ st.closing ≠ none → exec .alterStream s = .next (s.answered ref .notOpen 0))
    ∧ (st.state ≠ .closed → st.closing = none →
      ∃ t, exec .alterStream s = .next t
        ∧ t = (({ s with time := { s.time with deadlines := t.time.deadlines } } : State).setStream n { st with
            config := { st.config with
              fillPolicy := a.fillPolicy.getD st.config.fillPolicy, fillWord := a.fillWord.getD st.config.fillWord
              f := a.f.getD st.config.f, k := a.k.getD st.config.k, silence := a.silence.getD st.config.silence
              ageLimit := a.ageLimit.getD st.config.ageLimit, options := a.options.getD st.config.options } }).answered
            ref .ok 0
        ∧ (∀ v, a.silence = some v → measured → t.deadline n .silence = due v)
        ∧ (a.silence = none ∨ ¬ measured → t.deadline n .silence = s.deadline n .silence)
        ∧ (∀ v, a.ageLimit = some v → aged → t.deadline n .age = due v)
        ∧ (a.ageLimit = none ∨ ¬ aged → t.deadline n .age = s.deadline n .age)
        ∧ ∀ m k, ¬ (m = n ∧ (k = .silence ∨ k = .age)) → t.deadline m k = s.deadline m k)

/-- ATTACH PAGES appends addresses in order while the supply has room and answers how many, OK or PARTIAL, and a
supply that grows sets the changed-since-snapshot flag; FLUSH PAGE begins the close of the current page and waits for
it, or is NOTHING; both are NOT OPEN on a CLOSED stream and in its closing sequence.
The model's choices here: log 11. -/
def Obligations.PageOrders : Prop :=
  ∀ (s : State) (ref : RecordRef) (n : StreamId),
    let st := s.stream n
    let pg := s.page n
    (∀ addrs, s.requested ref (.attachPages n addrs) →
      (st.state = .closed ∨ st.closing ≠ none → exec .attachPages s = .next (s.answered ref .notOpen 0))
      ∧ (st.state ≠ .closed → st.closing = none → pg.supply.length + addrs.length ≤ 16 →
          exec .attachPages s = .next (((s.setPage n { pg with supply := pg.supply ++ addrs }).setStream n { st with
            changed := st.changed || !addrs.isEmpty }).answered ref .ok (BitVec.ofNat 32 addrs.length)))
      ∧ (st.state ≠ .closed → st.closing = none → pg.supply.length ≤ 16 → 16 < pg.supply.length + addrs.length →
          exec .attachPages s = .next (((s.setPage n { pg with
              supply := pg.supply ++ addrs.take (16 - pg.supply.length) }).setStream n { st with
            changed := st.changed || decide (pg.supply.length < 16) }).answered ref .somePart
              (BitVec.ofNat 32 (16 - pg.supply.length)))))
    ∧ (s.requested ref (.flushPage n) →
      (st.state = .closed ∨ st.closing ≠ none → exec .flushPage s = .next (s.answered ref .notOpen 0))
      ∧ (st.state ≠ .closed → st.closing = none → pg.current = none →
          exec .flushPage s = .next (s.answered ref .nothing 0))
      ∧ (∀ p, st.state ≠ .closed → st.closing = none → pg.current = some p →
          exec .flushPage s = .next { (s.cancel n .age).setPage n { pg with
              current := none
              closingPage := some { page := p, reason := .flush, flushWaits := true, issued := false } } with
            walker := { s.walker with activity := .waitFlush ref n } }))

/-! ### The write lane -/

/-- A stream's lane work, none where no item of R81 holds, and the arbiter: the first ready stream after the last one
served, wrapping around. Nothing begins while the lane is busy, or when the chosen work is of another kind.
The model's choices here: log 1. -/
def Obligations.LaneRoundRobin : Prop :=
  (∀ (st : Stream) (pg : PageState),
    (∀ p, pg.closingPage = some p → laneWork st pg = if p.issued then none else some .close)
    ∧ (pg.closingPage = none → ∀ c, st.closing = some c →
        (c.phase = .returnDue → laneWork st pg = some .giveBack) ∧ (c.phase = .returning → laneWork st pg = none))
    ∧ (pg.closingPage = none → (∀ c, st.closing = some c → c.phase ≠ .returnDue ∧ c.phase ≠ .returning) →
        let placeable : Prop := ∃ r rest, st.queue = r :: rest
          ∧ (pg.supply ≠ [] ∨ ∃ p, pg.current = some p ∧ p.used + recordSize r.count ≤ pageBytes st.config.sizeCode)
        (placeable → laneWork st pg = some .record) ∧ (¬ placeable → laneWork st pg = none)))
  ∧ ∀ s : State,
    (∀ n w, s.laneChoice = some (n, w) →
      laneWork (s.stream n) (s.page n) = some w
      ∧ ∀ m, laneWork (s.stream m) (s.page m) ≠ none → laneDistance s.lane.last n ≤ laneDistance s.lane.last m)
    ∧ (s.laneChoice = none → ∀ m, laneWork (s.stream m) (s.page m) = none)
    ∧ (∀ (c : Instr) (w : Work),
        (c, w) ∈ [(Instr.recordOperation, Work.record), (.pageCloseIssue, .close), (.returnIssue, .giveBack)] →
        (s.lane.op ≠ none ∨ ∀ n, s.laneChoice ≠ some (n, w)) → exec c s = .next s)

/-- A record operation: the record's bytes at the bytes used of the current page; or, when it does not fit, the page's
FULL close first; or, with no current page, at byte 32 of a page opened from the head of the supply.
The model's choices here: logs 7, 26. -/
def Obligations.RecordOperationBegins : Prop :=
  ∀ (s : State) (n : StreamId) (r : QueueRecord) (rest : List QueueRecord),
    s.laneServes n .record → (s.stream n).queue = r :: rest →
    let pg := s.page n
    let bytes := r.bytes s.store.buffers
    let begins (txs : List Tx) (u : State) : State :=
      { u with lane := { op := some (.record n s.time.tick), todo := txs, last := n } }
    (∀ p, pg.current = some p → p.used + recordSize r.count ≤ pageBytes (s.stream n).config.sizeCode →
      ∃ txs, writesRecord (p.addr + BitVec.ofNat 32 p.used) bytes txs
        ∧ exec .recordOperation s = .next (begins txs s))
    ∧ (∀ p, pg.current = some p → pageBytes (s.stream n).config.sizeCode < p.used + recordSize r.count →
      ∃ txs, writesClose p.addr (pageHeader n .full (pg.serial + 1) p s.time.tick .clear) txs
        ∧ exec .recordOperation s = .next (begins txs ((s.cancel n .age).setPage n { pg with
            current := none, serial := pg.serial + 1
            closingPage := some { page := p, reason := .full, flushWaits := false, issued := true } })))
    ∧ (∀ a more, pg.current = none → pg.supply = a :: more →
      ∃ txs, writesRecord (a + 32) bytes txs
        ∧ exec .recordOperation s = .next (begins txs ((s.setPage n { pg with
            supply := more
            current := some { addr := a, used := 32, count := 0, firstSequence := 0, lastSequence := 0,
                              openTick := s.time.tick } }).setStream n { s.stream n with changed := true })))

/-- The completion of a record's write: the record leaves the queue, its buffer goes back, the page counts it, and AGE
is armed on the page's first record with a nonzero age limit; a waiting closing sequence goes on, and a drained stream
begins its own; the page may have become the closing page meanwhile.
The model's choices here: logs 5, 8, 22. -/
def Obligations.RecordWriteCompletes : Prop :=
  ∀ (s : State) (tx : Tx) (n : StreamId) (begun : Word) (r : QueueRecord) (rest : List QueueRecord),
    s.flying tx → tx.role = .recordPart true → tx.body.data.length ≤ 64 → s.lane.op = some (.record n begun) →
    (s.stream n).queue = r :: rest →
    let st := s.stream n
    let pg := s.page n
    let counted (p : Page) : Page :=
      { p with
        used := p.used + recordSize r.count, count := p.count + 1, lastSequence := r.sequence
        firstSequence := if p.count = 0 then r.sequence else p.firstSequence }
    ∃ u, s.written tx u
      ∧ (let v (p : PageState) : State :=
          ({ u with
            lane := { s.lane with op := none, todo := [] }
            store := { s.store with pool := r.content.buffers ++ s.store.pool } } : State).setStream n
              { st with queue := rest } |>.setPage n p
         (∀ p, pg.current = some p →
            let w := v { pg with current := some (counted p) }
            let aged := if p.count = 0 ∧ st.config.ageLimit ≠ 0 then
                w.arm n .age (s.time.tick + BitVec.ofNat 32 (1000 * st.config.ageLimit.toNat))
              else w
            (st.closing = none → st.state ≠ .draining → exec .recordWriteComplete s = .next aged.advanceStop)
            ∧ (st.closing = none → st.state = .draining → (rest ≠ [] ∨ ∃ x, some x ∈ st.window) →
                exec .recordWriteComplete s = .next aged.advanceStop)
            ∧ (st.closing = none → st.state = .draining → rest = [] → (∀ x ∈ st.window, x = none) →
                exec .recordWriteComplete s = .next (aged.beginClosing n .close).advanceStop)
            ∧ (∀ c, st.closing = some c → c.phase = .waitLane →
                exec .recordWriteComplete s = .next (aged.closeStep2 n c.reason).advanceStop))
         ∧ (∀ c, pg.current = none → pg.closingPage = some c →
            let w := v { pg with closingPage := some { c with page := counted c.page } }
            (st.closing = none → st.state ≠ .draining → exec .recordWriteComplete s = .next w.advanceStop)
            ∧ (st.closing = none → st.state = .draining → (rest ≠ [] ∨ ∃ x, some x ∈ st.window) →
                exec .recordWriteComplete s = .next w.advanceStop)
            ∧ (st.closing = none → st.state = .draining → rest = [] → (∀ x ∈ st.window, x = none) →
                exec .recordWriteComplete s = .next (w.beginClosing n .close).advanceStop)
            ∧ (∀ k, st.closing = some k → k.phase = .waitLane →
                exec .recordWriteComplete s = .next (w.closeStep2 n k.reason).advanceStop)))

/-- A page close of its own: the page serial rises by one and is in the header; at its end the pages-closed counter
rises, the tally record is pending, PAGE is raised if enabled, a waiting FLUSH PAGE is answered, and a closing
sequence goes on. The FULL close of a record operation completes: the next page is opened from the supply with the
tick at which the operation began, and the record is written at its byte 32.
The model's choices here: logs 5, 7, 22, 26. -/
def Obligations.PageCloses : Prop :=
  (∀ (s : State) (n : StreamId) (c : ClosingPage),
      (s.page n).closingPage = some c →
      let st := s.stream n
      let pg := s.page n
      let carried : Notes := if c.reason = .close ∨ c.reason = .stop then st.notes else .clear
      (s.laneServes n .close →
        ∃ txs, writesClose c.page.addr (pageHeader n c.reason (pg.serial + 1) c.page s.time.tick carried) txs
          ∧ exec .pageCloseIssue s = .next { s.setPage n { pg with
              serial := pg.serial + 1, closingPage := some { c with issued := true } } with
            lane := { op := some (.pageClose n), todo := txs, last := n } })
      ∧ (∀ tx, s.flying tx → tx.role = .pageState → tx.body.data.length ≤ 64 → s.lane.op = some (.pageClose n) →
        ∃ u, s.written tx u
          ∧ (let v := (((({ u with lane := { s.lane with op := none, todo := [] } } : State).setPage n { pg with
                closingPage := none }).setStream n { st with
                counters := { st.counters with pagesClosed := st.counters.pagesClosed + 1 }
                changed := true }).join n.castSucc).raiseIf st.config.options.notifyPages 0x02#7
             ∀ told : State,
              ((c.flushWaits = false ∨ ∀ ref, s.walker.activity ≠ .waitFlush ref n) ∧ told = v)
                ∨ (∃ ref, c.flushWaits = true ∧ s.walker.activity = .waitFlush ref n ∧ told = v.answered ref .ok 0) →
              (st.closing = none → exec .pageCloseComplete s = .next told.advanceStop)
              ∧ (∀ k, st.closing = some k → k.phase = .waitClose →
                  exec .pageCloseComplete s = .next (told.closeStep3 n).advanceStop)
              ∧ (∀ k, st.closing = some k → k.phase = .waitLane →
                  exec .pageCloseComplete s = .next (told.closeStep2 n k.reason).advanceStop))))
  ∧ (∀ (s : State) (tx : Tx) (n : StreamId) (begun a : Word) (more : List Word) (r : QueueRecord) (rest : List QueueRecord),
      s.flying tx → tx.role = .pageState → tx.body.data.length ≤ 64 → s.lane.op = some (.record n begun) →
      (s.page n).supply = a :: more → (s.page n).current = none → (s.stream n).queue = r :: rest →
      let st := s.stream n
      ∃ u txs, s.written tx u ∧ writesRecord (a + 32) (r.bytes s.store.buffers) txs
        ∧ exec .pageCloseComplete s = .next (((((({ u with lane := { s.lane with todo := txs } } : State).setPage n
            { s.page n with
              closingPage := none, supply := more
              current := some { addr := a, used := 32, count := 0, firstSequence := 0, lastSequence := 0,
                                openTick := begun } }).setStream n { st with
            counters := { st.counters with pagesClosed := st.counters.pagesClosed + 1 }
            changed := true }).join n.castSucc).raiseIf st.config.options.notifyPages 0x02#7).advanceStop))

/-- A return: the supply is emptied, RETURNED is written into each of its pages in order, and at the end the closing
sequence takes its fourth step with the number of pages.
The model's choices here: logs 5, 22. -/
def Obligations.ReturnGivesSupplyBack : Prop :=
  ∀ (s : State) (n : StreamId) (c : Closing), (s.stream n).closing = some c →
    let st := s.stream n
    let supply := (s.page n).supply
    (s.laneServes n .giveBack →
      ∃ txs, exec .returnIssue s = .next { (s.setPage n { s.page n with supply := [] }).setStream n { st with
            closing := some { c with phase := .returning, returned := supply.length }
            changed := st.changed || !supply.isEmpty } with
          lane := { op := some (.giveBack n), todo := txs, last := n } }
        ∧ txs.length = supply.length
        ∧ ∀ i, (h : i < txs.length) → (h' : i < supply.length) →
            txs[i] = { addr := supply[i], body := .write [2, 0, 0, 0],
                       role := .pageReturn (decide (i + 1 = txs.length)) })
    ∧ (∀ tx, s.flying tx → tx.role = .pageReturn true → tx.body.data.length ≤ 64 → s.lane.op = some (.giveBack n) →
      ∃ u, s.written tx u
        ∧ exec .returnComplete s = .next
            ((({ u with lane := { s.lane with op := none, todo := [] } } : State).closeStep4 n c.returned).advanceStop))

/-! ### Tallies -/

/-- A tally snapshot: the first member after the last record written leaves the set, its serial rises by one, its flag
is cleared and a stream's minimum margin reset; with a zero mark its counters are 0; and the odd serial, the 60-byte
body as the values stood, and the even serial are to be written at 64 × index. The third transaction of a tally write
completes: the serial is even again, the write is complete, and a WRITE TALLY whose last marked record this was gets
its outcome.
The model's choices here: logs 1, 5, 7, 22. -/
def Obligations.TallySnapshotAndWrite : Prop :=
  (∀ (s : State), s.global.working = true → s.tally.write = none →
        ((∀ i : Fin 65, s.tally.pending[i] = none) → exec .tallySnapshot s = .next s)
        ∧ ∀ (i : Fin 65) (m : Marks), s.tally.pending[i] = some m →
          (∀ j : Fin 65, s.tally.pending[j] ≠ none → tallyDistance s.tally.last i ≤ tallyDistance s.tally.last j) →
          let addr := s.tally.base + BitVec.ofNat 32 (64 * i.val)
          let serial := s.tally.serials[i]
          let begins (body : List Byte) (u : State) : State :=
            { u with tally := { u.tally with
                pending := s.tally.pending.set i.val none i.isLt
                serials := s.tally.serials.set i.val (serial + 1) i.isLt
                last := i
                write := some { index := i, orderMark := m.order, todo :=
                  [{ addr := addr, body := .write (le32 (serial + 1)), role := .tallyOdd },
                   { addr := addr + 4, body := .write body, role := .tallyBody },
                   { addr := addr, body := .write (le32 (serial + 2)), role := .tallyEven }] } } }
          (∀ n : StreamId, i = n.castSucc →
            let st := s.stream n
            exec .tallySnapshot s = .next (begins (streamTallyBody st (s.page n).supply.length) (s.setStream n { st with
              counters := if m.zero then .zero else st.counters
              minMargin := 0x7FFFFFFF#32
              changed := m.zero && decide (st.counters ≠ StreamCounters.zero) })))
          ∧ (i = 64 →
            let body := deviceTallyBody s.rxA s.rxB s.acceptance.counters s.walker
            (m.zero = false → exec .tallySnapshot s = .next (begins body { s with
              tally := { s.tally with deviceChanged := false } }))
            ∧ (m.zero = true → ∃ changed, exec .tallySnapshot s = .next (begins body { s with
                rxA := { s.rxA with counters := .zero }
                rxB := { s.rxB with counters := .zero }
                acceptance := { s.acceptance with counters := .zero }
                walker := { s.walker with ordersDone := 0, ordersRefused := 0 }
                tally := { s.tally with deviceChanged := changed } })
              ∧ (changed = false ↔ s.rxA.counters = .zero ∧ s.rxB.counters = .zero ∧ s.acceptance.counters = .zero
                  ∧ s.walker.ordersDone = 0 ∧ s.walker.ordersRefused = 0))))
  ∧ (∀ (s : State) (tx : Tx) (w : TallyWrite), s.flying tx → tx.role = .tallyEven → tx.body.data.length ≤ 64 →
        s.tally.write = some w →
        let marked : Prop := ∃ (i : Fin 65) (m : Marks), s.tally.pending[i] = some m ∧ m.order = true
        ∃ u, s.written tx u
          ∧ (let v := { u with tally := { s.tally with
                serials := s.tally.serials.set w.index.val (s.tally.serials[w.index] + 1) w.index.isLt, write := none } }
             (∀ ref count, s.walker.activity = .waitTally ref count → w.orderMark = true → ¬ marked →
                exec .tallyWriteComplete s = .next (State.answered v ref .ok count).advanceStop)
             ∧ ((∀ ref count, s.walker.activity ≠ .waitTally ref count) ∨ w.orderMark = false ∨ marked →
                exec .tallyWriteComplete s = .next (State.advanceStop v))))

/-! ### Formats -/

/-- The layouts of what the part writes, every field at its place: the record, the page header, the stray entry, the
two tally records, with their numeric codes; the record size and the page sizes. And the frame check of the link
frames: generator 04C11DB7h, each byte from its most significant bit, the feedback bit, the register FFFFFFFFh at the
start of a frame and its complement as the check. -/
def Obligations.FormatSizes : Prop :=
  (∀ n, recordSize n % 4 = 0 ∧ 20 + 2 * n ≤ recordSize n ∧ recordSize n < 24 + 2 * n)
  ∧ [0, 1, 2, 3].map pageBytes = [1024, 2048, 4096, 8192]
  ∧ (∀ v : Half, le16 v = [v.extractLsb' 0 8, v.extractLsb' 8 8])
  ∧ (∀ v : Word, le32 v = [v.extractLsb' 0 8, v.extractLsb' 8 8, v.extractLsb' 16 8, v.extractLsb' 24 8])
  ∧ (∀ (buffers : Vector (List Half) 512) (r : QueueRecord),
      (∀ b, r.content = .buffer b → buffers[b].length = r.count) → (r.content = .empty → r.count = 0) →
      (r.bytes buffers).length = recordSize r.count
      ∧ (∀ b, r.content = .buffer b → r.samples buffers = buffers[b])
      ∧ (∀ v, r.content = .fillWord v → r.samples buffers = List.replicate r.count v)
      ∧ (r.content = .empty → r.samples buffers = [])
      ∧ ∃ flags : Byte,
          r.bytes buffers =
            [if r.kind = .data then 1 else 2, flags, BitVec.ofNat 8 r.count,
              if r.link = some .a then 0 else if r.link = some .b then 1 else 0xFF#8]
            ++ le16 r.sequence ++ le16 r.notes.skipped ++ le16 r.notes.starved ++ [0, 0]
            ++ le32 r.releaseTick ++ le32 r.originTime ++ (r.samples buffers).flatMap le16
            ++ (if r.count % 2 = 1 then [0, 0] else [])
          ∧ (List.range 8).map flags.getLsbD =
              [r.mark, r.test, r.repeated, r.notes.resync, r.notes.stall, r.notes.cut, false, false])
  ∧ (∀ (n : StreamId) (reason : CloseReason) (serial : Word) (p : Page) (tick : Word) (notes : Notes),
      (pageHeader n reason serial p tick notes).length = 28
      ∧ ∃ flags : Byte,
          pageHeader n reason serial p tick notes =
            [BitVec.ofNat 8 n.val, reason.code, flags, 0] ++ le32 serial ++ le16 (BitVec.ofNat 16 p.count)
            ++ le16 (BitVec.ofNat 16 p.used) ++ le16 p.firstSequence ++ le16 p.lastSequence ++ le32 p.openTick
            ++ le32 tick ++ le16 notes.skipped ++ le16 notes.starved
          ∧ (List.range 8).map flags.getLsbD =
              [false, false, false, notes.resync, notes.stall, notes.cut, false, false])
  ∧ (∀ e : Stray, e.bytes.length = 16
      ∧ e.bytes = le16 e.tag ++ le16 e.sequence ++ [BitVec.ofNat 8 e.length, if e.link = .a then 0 else 1, 0, 0]
          ++ le32 e.arrival ++ [0, 0, 0, 0])
  ∧ (∀ (st : Stream) (k : Nat),
      let c := st.counters
      (streamTallyBody st k).length = 60
      ∧ streamTallyBody st k = [st.state.code, BitVec.ofNat 8 k] ++ le16 st.head
          ++ [c.releasedData, c.fillRecords, c.skippedSequences, c.late, c.duplicate, c.early, c.unsynced, c.resyncs,
              c.stalls, c.cuts, c.starved, c.flushed, c.pagesClosed, st.minMargin].flatMap le32)
  ∧ (∀ (a b : Receiver) (c : AcceptanceCounters) (w : Walker),
      (deviceTallyBody a b c w).length = 60
      ∧ deviceTallyBody a b c w = [a.state.code, b.state.code, 0, 0]
          ++ [a.counters.good, b.counters.good, c.filteredA, c.filteredB, c.strays, c.closedStream, c.wrongLink,
              w.ordersDone, w.ordersRefused].flatMap le32
          ++ [a.counters.checkErrors, b.counters.checkErrors, a.counters.formatErrors, b.counters.formatErrors,
              a.counters.overruns, b.counters.overruns, a.counters.linkOffDrops, b.counters.linkOffDrops,
              c.strayOverflows, c.testDiscards].flatMap (fun v => le16 (v.extractLsb' 0 16)))
  ∧ ([StreamState.closed, .acquiring, .running, .stalled, .cut, .draining].map StreamState.code = [0, 1, 2, 3, 4, 5]
      ∧ [LinkState.off, .hunt, .up].map LinkState.code = [0, 1, 2]
      ∧ [CloseReason.full, .age, .flush, .close, .stop].map CloseReason.code = [1, 2, 3, 4, 5]
      ∧ [ResultCode.ok, .nothing, .overtaken, .somePart].map ResultCode.code = [0, 1, 2, 3]
      ∧ [ResultCode.badCode, .badField, .notOpen, .busy, .noRoom, .conflict, .badState, .stopped].map ResultCode.code
          = [16, 17, 18, 19, 20, 21, 22, 23])
  ∧ (∀ (reg : Word) (bit : Bool),
      (reg.getLsbD 31 ≠ bit → crcBit reg bit = (reg <<< 1) ^^^ 0x04C11DB7#32)
      ∧ (reg.getLsbD 31 = bit → crcBit reg bit = reg <<< 1))
  ∧ (∀ (reg : Word) (v : Byte), crcByte reg v =
      [v.getLsbD 7, v.getLsbD 6, v.getLsbD 5, v.getLsbD 4, v.getLsbD 3, v.getLsbD 2, v.getLsbD 1, v.getLsbD 0].foldl
        crcBit reg)
  ∧ (∀ bytes v, crcRegister (bytes ++ [v]) = crcByte (crcRegister bytes) v) ∧ crcRegister [] = 0xFFFFFFFF#32
  ∧ (∀ bytes, frameCheck bytes = ~~~ (crcRegister bytes))

/-! ### Invariants of every step -/

/-- Every step keeps the Deadline Queue free of two entries for one stream and kind; and in a lawful state it keeps
the law of which entries stand: HEAD, with the head deadline, exactly in RUNNING and in DRAINING with a burst held,
SILENCE exactly in ACQUIRING, RUNNING and STALLED with a nonzero period, AGE exactly when the current page holds a
record and the age limit is nonzero. -/
def Obligations.StepKeepsDeadlineLaw : Prop := StepKeeps State.deadlinesUnique ∧ LawKept State.deadlineLaw

/-- Every step from a lawful state keeps the windows: W slots, each held burst in the slot of its offset from head, so
that no two have one sequence, and bursts held in RUNNING and DRAINING only. -/
def Obligations.StepKeepsWindowLaw : Prop :=
  LawKept State.windowLaw
  ∧ ∀ (s : State) (n : StreamId) (i j : Nat) (b c : Burst), s.lawful →
      (s.stream n).window[i]? = some (some b) → (s.stream n).window[j]? = some (some c) → b.sequence = c.sequence →
      i = j ∧ i < (s.stream n).config.w

/-- Every step from a lawful state keeps the law of closing sequences and pages: a CLOSED stream holds no record and
no page, a closing stream is DRAINING with an empty window, its queue empty but for a record in flight at its first
step, a return in the lane is the return of a closing sequence, and no stream has both a current and a closing page.
The model's choices here: log 26. -/
def Obligations.StepKeepsClosingLaw : Prop := LawKept State.closingLaw

/-- Every step from a lawful state keeps the Burst Store's laws: each of the 512 buffers exactly once in the pool, a
window or a queue, no stream above its reservation, the reservation total the sum of the reservations and at most 512.
So a step from a lawful state never stops for want of a buffer.
The model's choices here: logs 8, 21. -/
def Obligations.StepKeepsStoreLaw : Prop :=
  LawKept State.storeLaw ∧ ∀ s : State, s.lawful → ∃ t, step s = .next t

/-- Every step keeps the written bytes of memory in their canonical form.
The model's choices here: log 5. -/
def Obligations.StepKeepsMemoryCanonical : Prop := StepKeeps State.memoryCanonical

/-- Every step keeps each capacity: 8 strays, 16 supply addresses, Q records in a delivery queue, an early run of 15;
each Route Table tag in at most one valid entry; and every block at its reset values in IDLE and STARTING, the Memory
Port too in IDLE, while in STARTING it reads the root record and the last granted is the Tally Writer.
The model's choices here: logs 8, 9, 14. -/
def Obligations.StepKeepsCapacities : Prop :=
  StepKeeps State.straysBounded ∧ StepKeeps State.supplyBounded ∧ StepKeeps State.queueBounded
    ∧ StepKeeps State.earlyRunBounded ∧ StepKeeps State.routesUnique ∧ StepKeeps State.restsOutsideWork

/-- Every step keeps a receiver's runs below eight and its assembled bytes at most 142, with none outside a frame, and
in a frame its check register the one computed over the bytes assembled. That the idle run stays below eight in UP and
the violation run in HUNT is the model's choice: the rules give no value to a run on the change of state (log 13).
The model's choices here: log 13. -/
def Obligations.StepKeepsLinksBounded : Prop := StepKeeps State.linksBounded
end

