-- ==== Sys2Proof/Laws/State.lean ====
section
/-! SUPPORT. What each shared update of the state leaves alone, field by field, and what it sets. -/

namespace Sys2Proof.Machine

open Sys2Proof

/-! ### setStream -/

@[simp] theorem State.run_setStream (s : State) (n : StreamId) (st : Stream) : (s.setStream n st).run = s.run := rfl
@[simp] theorem State.global_setStream (s : State) (n : StreamId) (st : Stream) : (s.setStream n st).global = s.global := rfl
@[simp] theorem State.faultReason_setStream (s : State) (n : StreamId) (st : Stream) : (s.setStream n st).faultReason = s.faultReason := rfl
@[simp] theorem State.faultAddr_setStream (s : State) (n : StreamId) (st : Stream) : (s.setStream n st).faultAddr = s.faultAddr := rfl
@[simp] theorem State.root_setStream (s : State) (n : StreamId) (st : Stream) : (s.setStream n st).root = s.root := rfl
@[simp] theorem State.cause_setStream (s : State) (n : StreamId) (st : Stream) : (s.setStream n st).cause = s.cause := rfl
@[simp] theorem State.enable_setStream (s : State) (n : StreamId) (st : Stream) : (s.setStream n st).enable = s.enable := rfl
@[simp] theorem State.resetHeld_setStream (s : State) (n : StreamId) (st : Stream) : (s.setStream n st).resetHeld = s.resetHeld := rfl
@[simp] theorem State.time_setStream (s : State) (n : StreamId) (st : Stream) : (s.setStream n st).time = s.time := rfl
@[simp] theorem State.port_setStream (s : State) (n : StreamId) (st : Stream) : (s.setStream n st).port = s.port := rfl
@[simp] theorem State.store_setStream (s : State) (n : StreamId) (st : Stream) : (s.setStream n st).store = s.store := rfl
@[simp] theorem State.pages_setStream (s : State) (n : StreamId) (st : Stream) : (s.setStream n st).pages = s.pages := rfl
@[simp] theorem State.lane_setStream (s : State) (n : StreamId) (st : Stream) : (s.setStream n st).lane = s.lane := rfl
@[simp] theorem State.rxA_setStream (s : State) (n : StreamId) (st : Stream) : (s.setStream n st).rxA = s.rxA := rfl
@[simp] theorem State.rxB_setStream (s : State) (n : StreamId) (st : Stream) : (s.setStream n st).rxB = s.rxB := rfl
@[simp] theorem State.acceptance_setStream (s : State) (n : StreamId) (st : Stream) : (s.setStream n st).acceptance = s.acceptance := rfl
@[simp] theorem State.walker_setStream (s : State) (n : StreamId) (st : Stream) : (s.setStream n st).walker = s.walker := rfl
@[simp] theorem State.tally_setStream (s : State) (n : StreamId) (st : Stream) : (s.setStream n st).tally = s.tally := rfl
@[simp] theorem State.sysMem_setStream (s : State) (n : StreamId) (st : Stream) : (s.setStream n st).sysMem = s.sysMem := rfl
@[simp] theorem State.freeCount_setStream (s : State) (n : StreamId) (st : Stream) : (s.setStream n st).freeCount = s.freeCount := rfl
@[simp] theorem State.pending_setStream (s : State) (n : StreamId) (st : Stream) : (s.setStream n st).pending = s.pending := rfl

/-! ### modStream -/

@[simp] theorem State.run_modStream (s : State) (n : StreamId) (f : Stream → Stream) : (s.modStream n f).run = s.run := rfl
@[simp] theorem State.global_modStream (s : State) (n : StreamId) (f : Stream → Stream) : (s.modStream n f).global = s.global := rfl
@[simp] theorem State.faultReason_modStream (s : State) (n : StreamId) (f : Stream → Stream) : (s.modStream n f).faultReason = s.faultReason := rfl
@[simp] theorem State.faultAddr_modStream (s : State) (n : StreamId) (f : Stream → Stream) : (s.modStream n f).faultAddr = s.faultAddr := rfl
@[simp] theorem State.root_modStream (s : State) (n : StreamId) (f : Stream → Stream) : (s.modStream n f).root = s.root := rfl
@[simp] theorem State.cause_modStream (s : State) (n : StreamId) (f : Stream → Stream) : (s.modStream n f).cause = s.cause := rfl
@[simp] theorem State.enable_modStream (s : State) (n : StreamId) (f : Stream → Stream) : (s.modStream n f).enable = s.enable := rfl
@[simp] theorem State.resetHeld_modStream (s : State) (n : StreamId) (f : Stream → Stream) : (s.modStream n f).resetHeld = s.resetHeld := rfl
@[simp] theorem State.time_modStream (s : State) (n : StreamId) (f : Stream → Stream) : (s.modStream n f).time = s.time := rfl
@[simp] theorem State.port_modStream (s : State) (n : StreamId) (f : Stream → Stream) : (s.modStream n f).port = s.port := rfl
@[simp] theorem State.store_modStream (s : State) (n : StreamId) (f : Stream → Stream) : (s.modStream n f).store = s.store := rfl
@[simp] theorem State.pages_modStream (s : State) (n : StreamId) (f : Stream → Stream) : (s.modStream n f).pages = s.pages := rfl
@[simp] theorem State.lane_modStream (s : State) (n : StreamId) (f : Stream → Stream) : (s.modStream n f).lane = s.lane := rfl
@[simp] theorem State.rxA_modStream (s : State) (n : StreamId) (f : Stream → Stream) : (s.modStream n f).rxA = s.rxA := rfl
@[simp] theorem State.rxB_modStream (s : State) (n : StreamId) (f : Stream → Stream) : (s.modStream n f).rxB = s.rxB := rfl
@[simp] theorem State.acceptance_modStream (s : State) (n : StreamId) (f : Stream → Stream) : (s.modStream n f).acceptance = s.acceptance := rfl
@[simp] theorem State.walker_modStream (s : State) (n : StreamId) (f : Stream → Stream) : (s.modStream n f).walker = s.walker := rfl
@[simp] theorem State.tally_modStream (s : State) (n : StreamId) (f : Stream → Stream) : (s.modStream n f).tally = s.tally := rfl
@[simp] theorem State.sysMem_modStream (s : State) (n : StreamId) (f : Stream → Stream) : (s.modStream n f).sysMem = s.sysMem := rfl
@[simp] theorem State.freeCount_modStream (s : State) (n : StreamId) (f : Stream → Stream) : (s.modStream n f).freeCount = s.freeCount := rfl
@[simp] theorem State.pending_modStream (s : State) (n : StreamId) (f : Stream → Stream) : (s.modStream n f).pending = s.pending := rfl

/-! ### setPage -/

@[simp] theorem State.run_setPage (s : State) (n : StreamId) (p : PageState) : (s.setPage n p).run = s.run := rfl
@[simp] theorem State.global_setPage (s : State) (n : StreamId) (p : PageState) : (s.setPage n p).global = s.global := rfl
@[simp] theorem State.faultReason_setPage (s : State) (n : StreamId) (p : PageState) : (s.setPage n p).faultReason = s.faultReason := rfl
@[simp] theorem State.faultAddr_setPage (s : State) (n : StreamId) (p : PageState) : (s.setPage n p).faultAddr = s.faultAddr := rfl
@[simp] theorem State.root_setPage (s : State) (n : StreamId) (p : PageState) : (s.setPage n p).root = s.root := rfl
@[simp] theorem State.cause_setPage (s : State) (n : StreamId) (p : PageState) : (s.setPage n p).cause = s.cause := rfl
@[simp] theorem State.enable_setPage (s : State) (n : StreamId) (p : PageState) : (s.setPage n p).enable = s.enable := rfl
@[simp] theorem State.resetHeld_setPage (s : State) (n : StreamId) (p : PageState) : (s.setPage n p).resetHeld = s.resetHeld := rfl
@[simp] theorem State.time_setPage (s : State) (n : StreamId) (p : PageState) : (s.setPage n p).time = s.time := rfl
@[simp] theorem State.port_setPage (s : State) (n : StreamId) (p : PageState) : (s.setPage n p).port = s.port := rfl
@[simp] theorem State.streams_setPage (s : State) (n : StreamId) (p : PageState) : (s.setPage n p).streams = s.streams := rfl
@[simp] theorem State.store_setPage (s : State) (n : StreamId) (p : PageState) : (s.setPage n p).store = s.store := rfl
@[simp] theorem State.lane_setPage (s : State) (n : StreamId) (p : PageState) : (s.setPage n p).lane = s.lane := rfl
@[simp] theorem State.rxA_setPage (s : State) (n : StreamId) (p : PageState) : (s.setPage n p).rxA = s.rxA := rfl
@[simp] theorem State.rxB_setPage (s : State) (n : StreamId) (p : PageState) : (s.setPage n p).rxB = s.rxB := rfl
@[simp] theorem State.acceptance_setPage (s : State) (n : StreamId) (p : PageState) : (s.setPage n p).acceptance = s.acceptance := rfl
@[simp] theorem State.walker_setPage (s : State) (n : StreamId) (p : PageState) : (s.setPage n p).walker = s.walker := rfl
@[simp] theorem State.tally_setPage (s : State) (n : StreamId) (p : PageState) : (s.setPage n p).tally = s.tally := rfl
@[simp] theorem State.sysMem_setPage (s : State) (n : StreamId) (p : PageState) : (s.setPage n p).sysMem = s.sysMem := rfl
@[simp] theorem State.freeCount_setPage (s : State) (n : StreamId) (p : PageState) : (s.setPage n p).freeCount = s.freeCount := rfl
@[simp] theorem State.pending_setPage (s : State) (n : StreamId) (p : PageState) : (s.setPage n p).pending = s.pending := rfl

/-! ### modPage -/

@[simp] theorem State.run_modPage (s : State) (n : StreamId) (f : PageState → PageState) : (s.modPage n f).run = s.run := rfl
@[simp] theorem State.global_modPage (s : State) (n : StreamId) (f : PageState → PageState) : (s.modPage n f).global = s.global := rfl
@[simp] theorem State.faultReason_modPage (s : State) (n : StreamId) (f : PageState → PageState) : (s.modPage n f).faultReason = s.faultReason := rfl
@[simp] theorem State.faultAddr_modPage (s : State) (n : StreamId) (f : PageState → PageState) : (s.modPage n f).faultAddr = s.faultAddr := rfl
@[simp] theorem State.root_modPage (s : State) (n : StreamId) (f : PageState → PageState) : (s.modPage n f).root = s.root := rfl
@[simp] theorem State.cause_modPage (s : State) (n : StreamId) (f : PageState → PageState) : (s.modPage n f).cause = s.cause := rfl
@[simp] theorem State.enable_modPage (s : State) (n : StreamId) (f : PageState → PageState) : (s.modPage n f).enable = s.enable := rfl
@[simp] theorem State.resetHeld_modPage (s : State) (n : StreamId) (f : PageState → PageState) : (s.modPage n f).resetHeld = s.resetHeld := rfl
@[simp] theorem State.time_modPage (s : State) (n : StreamId) (f : PageState → PageState) : (s.modPage n f).time = s.time := rfl
@[simp] theorem State.port_modPage (s : State) (n : StreamId) (f : PageState → PageState) : (s.modPage n f).port = s.port := rfl
@[simp] theorem State.streams_modPage (s : State) (n : StreamId) (f : PageState → PageState) : (s.modPage n f).streams = s.streams := rfl
@[simp] theorem State.store_modPage (s : State) (n : StreamId) (f : PageState → PageState) : (s.modPage n f).store = s.store := rfl
@[simp] theorem State.lane_modPage (s : State) (n : StreamId) (f : PageState → PageState) : (s.modPage n f).lane = s.lane := rfl
@[simp] theorem State.rxA_modPage (s : State) (n : StreamId) (f : PageState → PageState) : (s.modPage n f).rxA = s.rxA := rfl
@[simp] theorem State.rxB_modPage (s : State) (n : StreamId) (f : PageState → PageState) : (s.modPage n f).rxB = s.rxB := rfl
@[simp] theorem State.acceptance_modPage (s : State) (n : StreamId) (f : PageState → PageState) : (s.modPage n f).acceptance = s.acceptance := rfl
@[simp] theorem State.walker_modPage (s : State) (n : StreamId) (f : PageState → PageState) : (s.modPage n f).walker = s.walker := rfl
@[simp] theorem State.tally_modPage (s : State) (n : StreamId) (f : PageState → PageState) : (s.modPage n f).tally = s.tally := rfl
@[simp] theorem State.sysMem_modPage (s : State) (n : StreamId) (f : PageState → PageState) : (s.modPage n f).sysMem = s.sysMem := rfl
@[simp] theorem State.freeCount_modPage (s : State) (n : StreamId) (f : PageState → PageState) : (s.modPage n f).freeCount = s.freeCount := rfl
@[simp] theorem State.pending_modPage (s : State) (n : StreamId) (f : PageState → PageState) : (s.modPage n f).pending = s.pending := rfl

/-! ### setRx -/

@[simp] theorem State.run_setRx (s : State) (l : LinkId) (r : Receiver) : (s.setRx l r).run = s.run := by cases l <;> rfl
@[simp] theorem State.global_setRx (s : State) (l : LinkId) (r : Receiver) : (s.setRx l r).global = s.global := by cases l <;> rfl
@[simp] theorem State.faultReason_setRx (s : State) (l : LinkId) (r : Receiver) : (s.setRx l r).faultReason = s.faultReason := by cases l <;> rfl
@[simp] theorem State.faultAddr_setRx (s : State) (l : LinkId) (r : Receiver) : (s.setRx l r).faultAddr = s.faultAddr := by cases l <;> rfl
@[simp] theorem State.root_setRx (s : State) (l : LinkId) (r : Receiver) : (s.setRx l r).root = s.root := by cases l <;> rfl
@[simp] theorem State.cause_setRx (s : State) (l : LinkId) (r : Receiver) : (s.setRx l r).cause = s.cause := by cases l <;> rfl
@[simp] theorem State.enable_setRx (s : State) (l : LinkId) (r : Receiver) : (s.setRx l r).enable = s.enable := by cases l <;> rfl
@[simp] theorem State.resetHeld_setRx (s : State) (l : LinkId) (r : Receiver) : (s.setRx l r).resetHeld = s.resetHeld := by cases l <;> rfl
@[simp] theorem State.time_setRx (s : State) (l : LinkId) (r : Receiver) : (s.setRx l r).time = s.time := by cases l <;> rfl
@[simp] theorem State.port_setRx (s : State) (l : LinkId) (r : Receiver) : (s.setRx l r).port = s.port := by cases l <;> rfl
@[simp] theorem State.streams_setRx (s : State) (l : LinkId) (r : Receiver) : (s.setRx l r).streams = s.streams := by cases l <;> rfl
@[simp] theorem State.store_setRx (s : State) (l : LinkId) (r : Receiver) : (s.setRx l r).store = s.store := by cases l <;> rfl
@[simp] theorem State.pages_setRx (s : State) (l : LinkId) (r : Receiver) : (s.setRx l r).pages = s.pages := by cases l <;> rfl
@[simp] theorem State.lane_setRx (s : State) (l : LinkId) (r : Receiver) : (s.setRx l r).lane = s.lane := by cases l <;> rfl
@[simp] theorem State.acceptance_setRx (s : State) (l : LinkId) (r : Receiver) : (s.setRx l r).acceptance = s.acceptance := by cases l <;> rfl
@[simp] theorem State.walker_setRx (s : State) (l : LinkId) (r : Receiver) : (s.setRx l r).walker = s.walker := by cases l <;> rfl
@[simp] theorem State.tally_setRx (s : State) (l : LinkId) (r : Receiver) : (s.setRx l r).tally = s.tally := by cases l <;> rfl
@[simp] theorem State.sysMem_setRx (s : State) (l : LinkId) (r : Receiver) : (s.setRx l r).sysMem = s.sysMem := by cases l <;> rfl
@[simp] theorem State.freeCount_setRx (s : State) (l : LinkId) (r : Receiver) : (s.setRx l r).freeCount = s.freeCount := by cases l <;> rfl
@[simp] theorem State.pending_setRx (s : State) (l : LinkId) (r : Receiver) : (s.setRx l r).pending = s.pending := by cases l <;> rfl

/-! ### setWalker -/

@[simp] theorem State.run_setWalker (s : State) (w : Walker) : (s.setWalker w).run = s.run := rfl
@[simp] theorem State.global_setWalker (s : State) (w : Walker) : (s.setWalker w).global = s.global := rfl
@[simp] theorem State.faultReason_setWalker (s : State) (w : Walker) : (s.setWalker w).faultReason = s.faultReason := rfl
@[simp] theorem State.faultAddr_setWalker (s : State) (w : Walker) : (s.setWalker w).faultAddr = s.faultAddr := rfl
@[simp] theorem State.root_setWalker (s : State) (w : Walker) : (s.setWalker w).root = s.root := rfl
@[simp] theorem State.cause_setWalker (s : State) (w : Walker) : (s.setWalker w).cause = s.cause := rfl
@[simp] theorem State.enable_setWalker (s : State) (w : Walker) : (s.setWalker w).enable = s.enable := rfl
@[simp] theorem State.resetHeld_setWalker (s : State) (w : Walker) : (s.setWalker w).resetHeld = s.resetHeld := rfl
@[simp] theorem State.time_setWalker (s : State) (w : Walker) : (s.setWalker w).time = s.time := rfl
@[simp] theorem State.port_setWalker (s : State) (w : Walker) : (s.setWalker w).port = s.port := rfl
@[simp] theorem State.streams_setWalker (s : State) (w : Walker) : (s.setWalker w).streams = s.streams := rfl
@[simp] theorem State.store_setWalker (s : State) (w : Walker) : (s.setWalker w).store = s.store := rfl
@[simp] theorem State.pages_setWalker (s : State) (w : Walker) : (s.setWalker w).pages = s.pages := rfl
@[simp] theorem State.lane_setWalker (s : State) (w : Walker) : (s.setWalker w).lane = s.lane := rfl
@[simp] theorem State.rxA_setWalker (s : State) (w : Walker) : (s.setWalker w).rxA = s.rxA := rfl
@[simp] theorem State.rxB_setWalker (s : State) (w : Walker) : (s.setWalker w).rxB = s.rxB := rfl
@[simp] theorem State.acceptance_setWalker (s : State) (w : Walker) : (s.setWalker w).acceptance = s.acceptance := rfl
@[simp] theorem State.tally_setWalker (s : State) (w : Walker) : (s.setWalker w).tally = s.tally := rfl
@[simp] theorem State.sysMem_setWalker (s : State) (w : Walker) : (s.setWalker w).sysMem = s.sysMem := rfl
@[simp] theorem State.freeCount_setWalker (s : State) (w : Walker) : (s.setWalker w).freeCount = s.freeCount := rfl
@[simp] theorem State.pending_setWalker (s : State) (w : Walker) : (s.setWalker w).pending = s.pending := rfl

/-! ### setActivity -/

@[simp] theorem State.run_setActivity (s : State) (a : Activity) : (s.setActivity a).run = s.run := rfl
@[simp] theorem State.global_setActivity (s : State) (a : Activity) : (s.setActivity a).global = s.global := rfl
@[simp] theorem State.faultReason_setActivity (s : State) (a : Activity) : (s.setActivity a).faultReason = s.faultReason := rfl
@[simp] theorem State.faultAddr_setActivity (s : State) (a : Activity) : (s.setActivity a).faultAddr = s.faultAddr := rfl
@[simp] theorem State.root_setActivity (s : State) (a : Activity) : (s.setActivity a).root = s.root := rfl
@[simp] theorem State.cause_setActivity (s : State) (a : Activity) : (s.setActivity a).cause = s.cause := rfl
@[simp] theorem State.enable_setActivity (s : State) (a : Activity) : (s.setActivity a).enable = s.enable := rfl
@[simp] theorem State.resetHeld_setActivity (s : State) (a : Activity) : (s.setActivity a).resetHeld = s.resetHeld := rfl
@[simp] theorem State.time_setActivity (s : State) (a : Activity) : (s.setActivity a).time = s.time := rfl
@[simp] theorem State.port_setActivity (s : State) (a : Activity) : (s.setActivity a).port = s.port := rfl
@[simp] theorem State.streams_setActivity (s : State) (a : Activity) : (s.setActivity a).streams = s.streams := rfl
@[simp] theorem State.store_setActivity (s : State) (a : Activity) : (s.setActivity a).store = s.store := rfl
@[simp] theorem State.pages_setActivity (s : State) (a : Activity) : (s.setActivity a).pages = s.pages := rfl
@[simp] theorem State.lane_setActivity (s : State) (a : Activity) : (s.setActivity a).lane = s.lane := rfl
@[simp] theorem State.rxA_setActivity (s : State) (a : Activity) : (s.setActivity a).rxA = s.rxA := rfl
@[simp] theorem State.rxB_setActivity (s : State) (a : Activity) : (s.setActivity a).rxB = s.rxB := rfl
@[simp] theorem State.acceptance_setActivity (s : State) (a : Activity) : (s.setActivity a).acceptance = s.acceptance := rfl
@[simp] theorem State.tally_setActivity (s : State) (a : Activity) : (s.setActivity a).tally = s.tally := rfl
@[simp] theorem State.sysMem_setActivity (s : State) (a : Activity) : (s.setActivity a).sysMem = s.sysMem := rfl
@[simp] theorem State.freeCount_setActivity (s : State) (a : Activity) : (s.setActivity a).freeCount = s.freeCount := rfl
@[simp] theorem State.pending_setActivity (s : State) (a : Activity) : (s.setActivity a).pending = s.pending := rfl

/-! ### answer -/

@[simp] theorem State.run_answer (s : State) (ref : RecordRef) (c : ResultCode) (v : Word) : (s.answer ref c v).run = s.run := rfl
@[simp] theorem State.global_answer (s : State) (ref : RecordRef) (c : ResultCode) (v : Word) : (s.answer ref c v).global = s.global := rfl
@[simp] theorem State.faultReason_answer (s : State) (ref : RecordRef) (c : ResultCode) (v : Word) : (s.answer ref c v).faultReason = s.faultReason := rfl
@[simp] theorem State.faultAddr_answer (s : State) (ref : RecordRef) (c : ResultCode) (v : Word) : (s.answer ref c v).faultAddr = s.faultAddr := rfl
@[simp] theorem State.root_answer (s : State) (ref : RecordRef) (c : ResultCode) (v : Word) : (s.answer ref c v).root = s.root := rfl
@[simp] theorem State.cause_answer (s : State) (ref : RecordRef) (c : ResultCode) (v : Word) : (s.answer ref c v).cause = s.cause := rfl
@[simp] theorem State.enable_answer (s : State) (ref : RecordRef) (c : ResultCode) (v : Word) : (s.answer ref c v).enable = s.enable := rfl
@[simp] theorem State.resetHeld_answer (s : State) (ref : RecordRef) (c : ResultCode) (v : Word) : (s.answer ref c v).resetHeld = s.resetHeld := rfl
@[simp] theorem State.time_answer (s : State) (ref : RecordRef) (c : ResultCode) (v : Word) : (s.answer ref c v).time = s.time := rfl
@[simp] theorem State.port_answer (s : State) (ref : RecordRef) (c : ResultCode) (v : Word) : (s.answer ref c v).port = s.port := rfl
@[simp] theorem State.streams_answer (s : State) (ref : RecordRef) (c : ResultCode) (v : Word) : (s.answer ref c v).streams = s.streams := rfl
@[simp] theorem State.store_answer (s : State) (ref : RecordRef) (c : ResultCode) (v : Word) : (s.answer ref c v).store = s.store := rfl
@[simp] theorem State.pages_answer (s : State) (ref : RecordRef) (c : ResultCode) (v : Word) : (s.answer ref c v).pages = s.pages := rfl
@[simp] theorem State.lane_answer (s : State) (ref : RecordRef) (c : ResultCode) (v : Word) : (s.answer ref c v).lane = s.lane := rfl
@[simp] theorem State.rxA_answer (s : State) (ref : RecordRef) (c : ResultCode) (v : Word) : (s.answer ref c v).rxA = s.rxA := rfl
@[simp] theorem State.rxB_answer (s : State) (ref : RecordRef) (c : ResultCode) (v : Word) : (s.answer ref c v).rxB = s.rxB := rfl
@[simp] theorem State.acceptance_answer (s : State) (ref : RecordRef) (c : ResultCode) (v : Word) : (s.answer ref c v).acceptance = s.acceptance := rfl
@[simp] theorem State.tally_answer (s : State) (ref : RecordRef) (c : ResultCode) (v : Word) : (s.answer ref c v).tally = s.tally := rfl
@[simp] theorem State.sysMem_answer (s : State) (ref : RecordRef) (c : ResultCode) (v : Word) : (s.answer ref c v).sysMem = s.sysMem := rfl
@[simp] theorem State.freeCount_answer (s : State) (ref : RecordRef) (c : ResultCode) (v : Word) : (s.answer ref c v).freeCount = s.freeCount := rfl
@[simp] theorem State.pending_answer (s : State) (ref : RecordRef) (c : ResultCode) (v : Word) : (s.answer ref c v).pending = s.pending := rfl

/-! ### setDeadlines -/

@[simp] theorem State.run_setDeadlines (s : State) (q : List Deadline) : (s.setDeadlines q).run = s.run := rfl
@[simp] theorem State.global_setDeadlines (s : State) (q : List Deadline) : (s.setDeadlines q).global = s.global := rfl
@[simp] theorem State.faultReason_setDeadlines (s : State) (q : List Deadline) : (s.setDeadlines q).faultReason = s.faultReason := rfl
@[simp] theorem State.faultAddr_setDeadlines (s : State) (q : List Deadline) : (s.setDeadlines q).faultAddr = s.faultAddr := rfl
@[simp] theorem State.root_setDeadlines (s : State) (q : List Deadline) : (s.setDeadlines q).root = s.root := rfl
@[simp] theorem State.cause_setDeadlines (s : State) (q : List Deadline) : (s.setDeadlines q).cause = s.cause := rfl
@[simp] theorem State.enable_setDeadlines (s : State) (q : List Deadline) : (s.setDeadlines q).enable = s.enable := rfl
@[simp] theorem State.resetHeld_setDeadlines (s : State) (q : List Deadline) : (s.setDeadlines q).resetHeld = s.resetHeld := rfl
@[simp] theorem State.port_setDeadlines (s : State) (q : List Deadline) : (s.setDeadlines q).port = s.port := rfl
@[simp] theorem State.streams_setDeadlines (s : State) (q : List Deadline) : (s.setDeadlines q).streams = s.streams := rfl
@[simp] theorem State.store_setDeadlines (s : State) (q : List Deadline) : (s.setDeadlines q).store = s.store := rfl
@[simp] theorem State.pages_setDeadlines (s : State) (q : List Deadline) : (s.setDeadlines q).pages = s.pages := rfl
@[simp] theorem State.lane_setDeadlines (s : State) (q : List Deadline) : (s.setDeadlines q).lane = s.lane := rfl
@[simp] theorem State.rxA_setDeadlines (s : State) (q : List Deadline) : (s.setDeadlines q).rxA = s.rxA := rfl
@[simp] theorem State.rxB_setDeadlines (s : State) (q : List Deadline) : (s.setDeadlines q).rxB = s.rxB := rfl
@[simp] theorem State.acceptance_setDeadlines (s : State) (q : List Deadline) : (s.setDeadlines q).acceptance = s.acceptance := rfl
@[simp] theorem State.walker_setDeadlines (s : State) (q : List Deadline) : (s.setDeadlines q).walker = s.walker := rfl
@[simp] theorem State.tally_setDeadlines (s : State) (q : List Deadline) : (s.setDeadlines q).tally = s.tally := rfl
@[simp] theorem State.sysMem_setDeadlines (s : State) (q : List Deadline) : (s.setDeadlines q).sysMem = s.sysMem := rfl
@[simp] theorem State.freeCount_setDeadlines (s : State) (q : List Deadline) : (s.setDeadlines q).freeCount = s.freeCount := rfl
@[simp] theorem State.pending_setDeadlines (s : State) (q : List Deadline) : (s.setDeadlines q).pending = s.pending := rfl

/-! ### arm -/

@[simp] theorem State.run_arm (s : State) (n : StreamId) (k : DeadlineKind) (d : Word) : (s.arm n k d).run = s.run := rfl
@[simp] theorem State.global_arm (s : State) (n : StreamId) (k : DeadlineKind) (d : Word) : (s.arm n k d).global = s.global := rfl
@[simp] theorem State.faultReason_arm (s : State) (n : StreamId) (k : DeadlineKind) (d : Word) : (s.arm n k d).faultReason = s.faultReason := rfl
@[simp] theorem State.faultAddr_arm (s : State) (n : StreamId) (k : DeadlineKind) (d : Word) : (s.arm n k d).faultAddr = s.faultAddr := rfl
@[simp] theorem State.root_arm (s : State) (n : StreamId) (k : DeadlineKind) (d : Word) : (s.arm n k d).root = s.root := rfl
@[simp] theorem State.cause_arm (s : State) (n : StreamId) (k : DeadlineKind) (d : Word) : (s.arm n k d).cause = s.cause := rfl
@[simp] theorem State.enable_arm (s : State) (n : StreamId) (k : DeadlineKind) (d : Word) : (s.arm n k d).enable = s.enable := rfl
@[simp] theorem State.resetHeld_arm (s : State) (n : StreamId) (k : DeadlineKind) (d : Word) : (s.arm n k d).resetHeld = s.resetHeld := rfl
@[simp] theorem State.port_arm (s : State) (n : StreamId) (k : DeadlineKind) (d : Word) : (s.arm n k d).port = s.port := rfl
@[simp] theorem State.streams_arm (s : State) (n : StreamId) (k : DeadlineKind) (d : Word) : (s.arm n k d).streams = s.streams := rfl
@[simp] theorem State.store_arm (s : State) (n : StreamId) (k : DeadlineKind) (d : Word) : (s.arm n k d).store = s.store := rfl
@[simp] theorem State.pages_arm (s : State) (n : StreamId) (k : DeadlineKind) (d : Word) : (s.arm n k d).pages = s.pages := rfl
@[simp] theorem State.lane_arm (s : State) (n : StreamId) (k : DeadlineKind) (d : Word) : (s.arm n k d).lane = s.lane := rfl
@[simp] theorem State.rxA_arm (s : State) (n : StreamId) (k : DeadlineKind) (d : Word) : (s.arm n k d).rxA = s.rxA := rfl
@[simp] theorem State.rxB_arm (s : State) (n : StreamId) (k : DeadlineKind) (d : Word) : (s.arm n k d).rxB = s.rxB := rfl
@[simp] theorem State.acceptance_arm (s : State) (n : StreamId) (k : DeadlineKind) (d : Word) : (s.arm n k d).acceptance = s.acceptance := rfl
@[simp] theorem State.walker_arm (s : State) (n : StreamId) (k : DeadlineKind) (d : Word) : (s.arm n k d).walker = s.walker := rfl
@[simp] theorem State.tally_arm (s : State) (n : StreamId) (k : DeadlineKind) (d : Word) : (s.arm n k d).tally = s.tally := rfl
@[simp] theorem State.sysMem_arm (s : State) (n : StreamId) (k : DeadlineKind) (d : Word) : (s.arm n k d).sysMem = s.sysMem := rfl
@[simp] theorem State.freeCount_arm (s : State) (n : StreamId) (k : DeadlineKind) (d : Word) : (s.arm n k d).freeCount = s.freeCount := rfl
@[simp] theorem State.pending_arm (s : State) (n : StreamId) (k : DeadlineKind) (d : Word) : (s.arm n k d).pending = s.pending := rfl

/-! ### cancel -/

@[simp] theorem State.run_cancel (s : State) (n : StreamId) (k : DeadlineKind) : (s.cancel n k).run = s.run := rfl
@[simp] theorem State.global_cancel (s : State) (n : StreamId) (k : DeadlineKind) : (s.cancel n k).global = s.global := rfl
@[simp] theorem State.faultReason_cancel (s : State) (n : StreamId) (k : DeadlineKind) : (s.cancel n k).faultReason = s.faultReason := rfl
@[simp] theorem State.faultAddr_cancel (s : State) (n : StreamId) (k : DeadlineKind) : (s.cancel n k).faultAddr = s.faultAddr := rfl
@[simp] theorem State.root_cancel (s : State) (n : StreamId) (k : DeadlineKind) : (s.cancel n k).root = s.root := rfl
@[simp] theorem State.cause_cancel (s : State) (n : StreamId) (k : DeadlineKind) : (s.cancel n k).cause = s.cause := rfl
@[simp] theorem State.enable_cancel (s : State) (n : StreamId) (k : DeadlineKind) : (s.cancel n k).enable = s.enable := rfl
@[simp] theorem State.resetHeld_cancel (s : State) (n : StreamId) (k : DeadlineKind) : (s.cancel n k).resetHeld = s.resetHeld := rfl
@[simp] theorem State.port_cancel (s : State) (n : StreamId) (k : DeadlineKind) : (s.cancel n k).port = s.port := rfl
@[simp] theorem State.streams_cancel (s : State) (n : StreamId) (k : DeadlineKind) : (s.cancel n k).streams = s.streams := rfl
@[simp] theorem State.store_cancel (s : State) (n : StreamId) (k : DeadlineKind) : (s.cancel n k).store = s.store := rfl
@[simp] theorem State.pages_cancel (s : State) (n : StreamId) (k : DeadlineKind) : (s.cancel n k).pages = s.pages := rfl
@[simp] theorem State.lane_cancel (s : State) (n : StreamId) (k : DeadlineKind) : (s.cancel n k).lane = s.lane := rfl
@[simp] theorem State.rxA_cancel (s : State) (n : StreamId) (k : DeadlineKind) : (s.cancel n k).rxA = s.rxA := rfl
@[simp] theorem State.rxB_cancel (s : State) (n : StreamId) (k : DeadlineKind) : (s.cancel n k).rxB = s.rxB := rfl
@[simp] theorem State.acceptance_cancel (s : State) (n : StreamId) (k : DeadlineKind) : (s.cancel n k).acceptance = s.acceptance := rfl
@[simp] theorem State.walker_cancel (s : State) (n : StreamId) (k : DeadlineKind) : (s.cancel n k).walker = s.walker := rfl
@[simp] theorem State.tally_cancel (s : State) (n : StreamId) (k : DeadlineKind) : (s.cancel n k).tally = s.tally := rfl
@[simp] theorem State.sysMem_cancel (s : State) (n : StreamId) (k : DeadlineKind) : (s.cancel n k).sysMem = s.sysMem := rfl
@[simp] theorem State.freeCount_cancel (s : State) (n : StreamId) (k : DeadlineKind) : (s.cancel n k).freeCount = s.freeCount := rfl
@[simp] theorem State.pending_cancel (s : State) (n : StreamId) (k : DeadlineKind) : (s.cancel n k).pending = s.pending := rfl

/-! ### raise -/

@[simp] theorem State.run_raise (s : State) (b : BitVec 7) : (s.raise b).run = s.run := rfl
@[simp] theorem State.global_raise (s : State) (b : BitVec 7) : (s.raise b).global = s.global := rfl
@[simp] theorem State.faultReason_raise (s : State) (b : BitVec 7) : (s.raise b).faultReason = s.faultReason := rfl
@[simp] theorem State.faultAddr_raise (s : State) (b : BitVec 7) : (s.raise b).faultAddr = s.faultAddr := rfl
@[simp] theorem State.root_raise (s : State) (b : BitVec 7) : (s.raise b).root = s.root := rfl
@[simp] theorem State.enable_raise (s : State) (b : BitVec 7) : (s.raise b).enable = s.enable := rfl
@[simp] theorem State.resetHeld_raise (s : State) (b : BitVec 7) : (s.raise b).resetHeld = s.resetHeld := rfl
@[simp] theorem State.time_raise (s : State) (b : BitVec 7) : (s.raise b).time = s.time := rfl
@[simp] theorem State.port_raise (s : State) (b : BitVec 7) : (s.raise b).port = s.port := rfl
@[simp] theorem State.streams_raise (s : State) (b : BitVec 7) : (s.raise b).streams = s.streams := rfl
@[simp] theorem State.store_raise (s : State) (b : BitVec 7) : (s.raise b).store = s.store := rfl
@[simp] theorem State.pages_raise (s : State) (b : BitVec 7) : (s.raise b).pages = s.pages := rfl
@[simp] theorem State.lane_raise (s : State) (b : BitVec 7) : (s.raise b).lane = s.lane := rfl
@[simp] theorem State.rxA_raise (s : State) (b : BitVec 7) : (s.raise b).rxA = s.rxA := rfl
@[simp] theorem State.rxB_raise (s : State) (b : BitVec 7) : (s.raise b).rxB = s.rxB := rfl
@[simp] theorem State.acceptance_raise (s : State) (b : BitVec 7) : (s.raise b).acceptance = s.acceptance := rfl
@[simp] theorem State.walker_raise (s : State) (b : BitVec 7) : (s.raise b).walker = s.walker := rfl
@[simp] theorem State.tally_raise (s : State) (b : BitVec 7) : (s.raise b).tally = s.tally := rfl
@[simp] theorem State.sysMem_raise (s : State) (b : BitVec 7) : (s.raise b).sysMem = s.sysMem := rfl
@[simp] theorem State.freeCount_raise (s : State) (b : BitVec 7) : (s.raise b).freeCount = s.freeCount := rfl
@[simp] theorem State.pending_raise (s : State) (b : BitVec 7) : (s.raise b).pending = s.pending := rfl

/-! ### raiseIf -/

@[simp] theorem State.run_raiseIf (s : State) (c : Bool) (b : BitVec 7) : (s.raiseIf c b).run = s.run := by cases c <;> rfl
@[simp] theorem State.global_raiseIf (s : State) (c : Bool) (b : BitVec 7) : (s.raiseIf c b).global = s.global := by cases c <;> rfl
@[simp] theorem State.faultReason_raiseIf (s : State) (c : Bool) (b : BitVec 7) : (s.raiseIf c b).faultReason = s.faultReason := by cases c <;> rfl
@[simp] theorem State.faultAddr_raiseIf (s : State) (c : Bool) (b : BitVec 7) : (s.raiseIf c b).faultAddr = s.faultAddr := by cases c <;> rfl
@[simp] theorem State.root_raiseIf (s : State) (c : Bool) (b : BitVec 7) : (s.raiseIf c b).root = s.root := by cases c <;> rfl
@[simp] theorem State.enable_raiseIf (s : State) (c : Bool) (b : BitVec 7) : (s.raiseIf c b).enable = s.enable := by cases c <;> rfl
@[simp] theorem State.resetHeld_raiseIf (s : State) (c : Bool) (b : BitVec 7) : (s.raiseIf c b).resetHeld = s.resetHeld := by cases c <;> rfl
@[simp] theorem State.time_raiseIf (s : State) (c : Bool) (b : BitVec 7) : (s.raiseIf c b).time = s.time := by cases c <;> rfl
@[simp] theorem State.port_raiseIf (s : State) (c : Bool) (b : BitVec 7) : (s.raiseIf c b).port = s.port := by cases c <;> rfl
@[simp] theorem State.streams_raiseIf (s : State) (c : Bool) (b : BitVec 7) : (s.raiseIf c b).streams = s.streams := by cases c <;> rfl
@[simp] theorem State.store_raiseIf (s : State) (c : Bool) (b : BitVec 7) : (s.raiseIf c b).store = s.store := by cases c <;> rfl
@[simp] theorem State.pages_raiseIf (s : State) (c : Bool) (b : BitVec 7) : (s.raiseIf c b).pages = s.pages := by cases c <;> rfl
@[simp] theorem State.lane_raiseIf (s : State) (c : Bool) (b : BitVec 7) : (s.raiseIf c b).lane = s.lane := by cases c <;> rfl
@[simp] theorem State.rxA_raiseIf (s : State) (c : Bool) (b : BitVec 7) : (s.raiseIf c b).rxA = s.rxA := by cases c <;> rfl
@[simp] theorem State.rxB_raiseIf (s : State) (c : Bool) (b : BitVec 7) : (s.raiseIf c b).rxB = s.rxB := by cases c <;> rfl
@[simp] theorem State.acceptance_raiseIf (s : State) (c : Bool) (b : BitVec 7) : (s.raiseIf c b).acceptance = s.acceptance := by cases c <;> rfl
@[simp] theorem State.walker_raiseIf (s : State) (c : Bool) (b : BitVec 7) : (s.raiseIf c b).walker = s.walker := by cases c <;> rfl
@[simp] theorem State.tally_raiseIf (s : State) (c : Bool) (b : BitVec 7) : (s.raiseIf c b).tally = s.tally := by cases c <;> rfl
@[simp] theorem State.sysMem_raiseIf (s : State) (c : Bool) (b : BitVec 7) : (s.raiseIf c b).sysMem = s.sysMem := by cases c <;> rfl
@[simp] theorem State.freeCount_raiseIf (s : State) (c : Bool) (b : BitVec 7) : (s.raiseIf c b).freeCount = s.freeCount := by cases c <;> rfl
@[simp] theorem State.pending_raiseIf (s : State) (c : Bool) (b : BitVec 7) : (s.raiseIf c b).pending = s.pending := by cases c <;> rfl

/-! ### alarm -/

@[simp] theorem State.run_alarm (s : State) (n : StreamId) : (s.alarm n).run = s.run := State.run_raiseIf _ _ _
@[simp] theorem State.global_alarm (s : State) (n : StreamId) : (s.alarm n).global = s.global := State.global_raiseIf _ _ _
@[simp] theorem State.faultReason_alarm (s : State) (n : StreamId) : (s.alarm n).faultReason = s.faultReason := State.faultReason_raiseIf _ _ _
@[simp] theorem State.faultAddr_alarm (s : State) (n : StreamId) : (s.alarm n).faultAddr = s.faultAddr := State.faultAddr_raiseIf _ _ _
@[simp] theorem State.root_alarm (s : State) (n : StreamId) : (s.alarm n).root = s.root := State.root_raiseIf _ _ _
@[simp] theorem State.enable_alarm (s : State) (n : StreamId) : (s.alarm n).enable = s.enable := State.enable_raiseIf _ _ _
@[simp] theorem State.resetHeld_alarm (s : State) (n : StreamId) : (s.alarm n).resetHeld = s.resetHeld := State.resetHeld_raiseIf _ _ _
@[simp] theorem State.time_alarm (s : State) (n : StreamId) : (s.alarm n).time = s.time := State.time_raiseIf _ _ _
@[simp] theorem State.port_alarm (s : State) (n : StreamId) : (s.alarm n).port = s.port := State.port_raiseIf _ _ _
@[simp] theorem State.streams_alarm (s : State) (n : StreamId) : (s.alarm n).streams = s.streams := State.streams_raiseIf _ _ _
@[simp] theorem State.store_alarm (s : State) (n : StreamId) : (s.alarm n).store = s.store := State.store_raiseIf _ _ _
@[simp] theorem State.pages_alarm (s : State) (n : StreamId) : (s.alarm n).pages = s.pages := State.pages_raiseIf _ _ _
@[simp] theorem State.lane_alarm (s : State) (n : StreamId) : (s.alarm n).lane = s.lane := State.lane_raiseIf _ _ _
@[simp] theorem State.rxA_alarm (s : State) (n : StreamId) : (s.alarm n).rxA = s.rxA := State.rxA_raiseIf _ _ _
@[simp] theorem State.rxB_alarm (s : State) (n : StreamId) : (s.alarm n).rxB = s.rxB := State.rxB_raiseIf _ _ _
@[simp] theorem State.acceptance_alarm (s : State) (n : StreamId) : (s.alarm n).acceptance = s.acceptance := State.acceptance_raiseIf _ _ _
@[simp] theorem State.walker_alarm (s : State) (n : StreamId) : (s.alarm n).walker = s.walker := State.walker_raiseIf _ _ _
@[simp] theorem State.tally_alarm (s : State) (n : StreamId) : (s.alarm n).tally = s.tally := State.tally_raiseIf _ _ _
@[simp] theorem State.sysMem_alarm (s : State) (n : StreamId) : (s.alarm n).sysMem = s.sysMem := State.sysMem_raiseIf _ _ _
@[simp] theorem State.freeCount_alarm (s : State) (n : StreamId) : (s.alarm n).freeCount = s.freeCount := State.freeCount_raiseIf _ _ _
@[simp] theorem State.pending_alarm (s : State) (n : StreamId) : (s.alarm n).pending = s.pending := State.pending_raiseIf _ _ _

/-! ### markDevice -/

@[simp] theorem State.run_markDevice (s : State) : (s.markDevice).run = s.run := rfl
@[simp] theorem State.global_markDevice (s : State) : (s.markDevice).global = s.global := rfl
@[simp] theorem State.faultReason_markDevice (s : State) : (s.markDevice).faultReason = s.faultReason := rfl
@[simp] theorem State.faultAddr_markDevice (s : State) : (s.markDevice).faultAddr = s.faultAddr := rfl
@[simp] theorem State.root_markDevice (s : State) : (s.markDevice).root = s.root := rfl
@[simp] theorem State.cause_markDevice (s : State) : (s.markDevice).cause = s.cause := rfl
@[simp] theorem State.enable_markDevice (s : State) : (s.markDevice).enable = s.enable := rfl
@[simp] theorem State.resetHeld_markDevice (s : State) : (s.markDevice).resetHeld = s.resetHeld := rfl
@[simp] theorem State.time_markDevice (s : State) : (s.markDevice).time = s.time := rfl
@[simp] theorem State.port_markDevice (s : State) : (s.markDevice).port = s.port := rfl
@[simp] theorem State.streams_markDevice (s : State) : (s.markDevice).streams = s.streams := rfl
@[simp] theorem State.store_markDevice (s : State) : (s.markDevice).store = s.store := rfl
@[simp] theorem State.pages_markDevice (s : State) : (s.markDevice).pages = s.pages := rfl
@[simp] theorem State.lane_markDevice (s : State) : (s.markDevice).lane = s.lane := rfl
@[simp] theorem State.rxA_markDevice (s : State) : (s.markDevice).rxA = s.rxA := rfl
@[simp] theorem State.rxB_markDevice (s : State) : (s.markDevice).rxB = s.rxB := rfl
@[simp] theorem State.acceptance_markDevice (s : State) : (s.markDevice).acceptance = s.acceptance := rfl
@[simp] theorem State.walker_markDevice (s : State) : (s.markDevice).walker = s.walker := rfl
@[simp] theorem State.sysMem_markDevice (s : State) : (s.markDevice).sysMem = s.sysMem := rfl
@[simp] theorem State.freeCount_markDevice (s : State) : (s.markDevice).freeCount = s.freeCount := rfl
@[simp] theorem State.pending_markDevice (s : State) : (s.markDevice).pending = s.pending := rfl

/-! ### join -/

@[simp] theorem State.run_join (s : State) (i : Fin 65) : (s.join i).run = s.run := rfl
@[simp] theorem State.global_join (s : State) (i : Fin 65) : (s.join i).global = s.global := rfl
@[simp] theorem State.faultReason_join (s : State) (i : Fin 65) : (s.join i).faultReason = s.faultReason := rfl
@[simp] theorem State.faultAddr_join (s : State) (i : Fin 65) : (s.join i).faultAddr = s.faultAddr := rfl
@[simp] theorem State.root_join (s : State) (i : Fin 65) : (s.join i).root = s.root := rfl
@[simp] theorem State.cause_join (s : State) (i : Fin 65) : (s.join i).cause = s.cause := rfl
@[simp] theorem State.enable_join (s : State) (i : Fin 65) : (s.join i).enable = s.enable := rfl
@[simp] theorem State.resetHeld_join (s : State) (i : Fin 65) : (s.join i).resetHeld = s.resetHeld := rfl
@[simp] theorem State.time_join (s : State) (i : Fin 65) : (s.join i).time = s.time := rfl
@[simp] theorem State.port_join (s : State) (i : Fin 65) : (s.join i).port = s.port := rfl
@[simp] theorem State.streams_join (s : State) (i : Fin 65) : (s.join i).streams = s.streams := rfl
@[simp] theorem State.store_join (s : State) (i : Fin 65) : (s.join i).store = s.store := rfl
@[simp] theorem State.pages_join (s : State) (i : Fin 65) : (s.join i).pages = s.pages := rfl
@[simp] theorem State.lane_join (s : State) (i : Fin 65) : (s.join i).lane = s.lane := rfl
@[simp] theorem State.rxA_join (s : State) (i : Fin 65) : (s.join i).rxA = s.rxA := rfl
@[simp] theorem State.rxB_join (s : State) (i : Fin 65) : (s.join i).rxB = s.rxB := rfl
@[simp] theorem State.acceptance_join (s : State) (i : Fin 65) : (s.join i).acceptance = s.acceptance := rfl
@[simp] theorem State.walker_join (s : State) (i : Fin 65) : (s.join i).walker = s.walker := rfl
@[simp] theorem State.sysMem_join (s : State) (i : Fin 65) : (s.join i).sysMem = s.sysMem := rfl
@[simp] theorem State.freeCount_join (s : State) (i : Fin 65) : (s.join i).freeCount = s.freeCount := rfl
@[simp] theorem State.pending_join (s : State) (i : Fin 65) : (s.join i).pending = s.pending := rfl

/-! ### joinChanged -/

@[simp] theorem State.run_joinChanged (s : State) : (s.joinChanged).run = s.run := by simp only [State.joinChanged]
@[simp] theorem State.global_joinChanged (s : State) : (s.joinChanged).global = s.global := by simp only [State.joinChanged]
@[simp] theorem State.faultReason_joinChanged (s : State) : (s.joinChanged).faultReason = s.faultReason := by simp only [State.joinChanged]
@[simp] theorem State.faultAddr_joinChanged (s : State) : (s.joinChanged).faultAddr = s.faultAddr := by simp only [State.joinChanged]
@[simp] theorem State.root_joinChanged (s : State) : (s.joinChanged).root = s.root := by simp only [State.joinChanged]
@[simp] theorem State.cause_joinChanged (s : State) : (s.joinChanged).cause = s.cause := by simp only [State.joinChanged]
@[simp] theorem State.enable_joinChanged (s : State) : (s.joinChanged).enable = s.enable := by simp only [State.joinChanged]
@[simp] theorem State.resetHeld_joinChanged (s : State) : (s.joinChanged).resetHeld = s.resetHeld := by simp only [State.joinChanged]
@[simp] theorem State.time_joinChanged (s : State) : (s.joinChanged).time = s.time := by simp only [State.joinChanged]
@[simp] theorem State.port_joinChanged (s : State) : (s.joinChanged).port = s.port := by simp only [State.joinChanged]
@[simp] theorem State.streams_joinChanged (s : State) : (s.joinChanged).streams = s.streams := by simp only [State.joinChanged]
@[simp] theorem State.store_joinChanged (s : State) : (s.joinChanged).store = s.store := by simp only [State.joinChanged]
@[simp] theorem State.pages_joinChanged (s : State) : (s.joinChanged).pages = s.pages := by simp only [State.joinChanged]
@[simp] theorem State.lane_joinChanged (s : State) : (s.joinChanged).lane = s.lane := by simp only [State.joinChanged]
@[simp] theorem State.rxA_joinChanged (s : State) : (s.joinChanged).rxA = s.rxA := by simp only [State.joinChanged]
@[simp] theorem State.rxB_joinChanged (s : State) : (s.joinChanged).rxB = s.rxB := by simp only [State.joinChanged]
@[simp] theorem State.acceptance_joinChanged (s : State) : (s.joinChanged).acceptance = s.acceptance := by simp only [State.joinChanged]
@[simp] theorem State.walker_joinChanged (s : State) : (s.joinChanged).walker = s.walker := by simp only [State.joinChanged]
@[simp] theorem State.sysMem_joinChanged (s : State) : (s.joinChanged).sysMem = s.sysMem := by simp only [State.joinChanged]
@[simp] theorem State.freeCount_joinChanged (s : State) : (s.joinChanged).freeCount = s.freeCount := by simp only [State.joinChanged]
@[simp] theorem State.pending_joinChanged (s : State) : (s.joinChanged).pending = s.pending := by simp only [State.joinChanged]

/-! ### freeBuffers -/

@[simp] theorem State.run_freeBuffers (s : State) (bs : List BufferId) : (s.freeBuffers bs).run = s.run := rfl
@[simp] theorem State.global_freeBuffers (s : State) (bs : List BufferId) : (s.freeBuffers bs).global = s.global := rfl
@[simp] theorem State.faultReason_freeBuffers (s : State) (bs : List BufferId) : (s.freeBuffers bs).faultReason = s.faultReason := rfl
@[simp] theorem State.faultAddr_freeBuffers (s : State) (bs : List BufferId) : (s.freeBuffers bs).faultAddr = s.faultAddr := rfl
@[simp] theorem State.root_freeBuffers (s : State) (bs : List BufferId) : (s.freeBuffers bs).root = s.root := rfl
@[simp] theorem State.cause_freeBuffers (s : State) (bs : List BufferId) : (s.freeBuffers bs).cause = s.cause := rfl
@[simp] theorem State.enable_freeBuffers (s : State) (bs : List BufferId) : (s.freeBuffers bs).enable = s.enable := rfl
@[simp] theorem State.resetHeld_freeBuffers (s : State) (bs : List BufferId) : (s.freeBuffers bs).resetHeld = s.resetHeld := rfl
@[simp] theorem State.time_freeBuffers (s : State) (bs : List BufferId) : (s.freeBuffers bs).time = s.time := rfl
@[simp] theorem State.port_freeBuffers (s : State) (bs : List BufferId) : (s.freeBuffers bs).port = s.port := rfl
@[simp] theorem State.streams_freeBuffers (s : State) (bs : List BufferId) : (s.freeBuffers bs).streams = s.streams := rfl
@[simp] theorem State.pages_freeBuffers (s : State) (bs : List BufferId) : (s.freeBuffers bs).pages = s.pages := rfl
@[simp] theorem State.lane_freeBuffers (s : State) (bs : List BufferId) : (s.freeBuffers bs).lane = s.lane := rfl
@[simp] theorem State.rxA_freeBuffers (s : State) (bs : List BufferId) : (s.freeBuffers bs).rxA = s.rxA := rfl
@[simp] theorem State.rxB_freeBuffers (s : State) (bs : List BufferId) : (s.freeBuffers bs).rxB = s.rxB := rfl
@[simp] theorem State.acceptance_freeBuffers (s : State) (bs : List BufferId) : (s.freeBuffers bs).acceptance = s.acceptance := rfl
@[simp] theorem State.walker_freeBuffers (s : State) (bs : List BufferId) : (s.freeBuffers bs).walker = s.walker := rfl
@[simp] theorem State.tally_freeBuffers (s : State) (bs : List BufferId) : (s.freeBuffers bs).tally = s.tally := rfl
@[simp] theorem State.sysMem_freeBuffers (s : State) (bs : List BufferId) : (s.freeBuffers bs).sysMem = s.sysMem := rfl
@[simp] theorem State.freeCount_freeBuffers (s : State) (bs : List BufferId) : (s.freeBuffers bs).freeCount = s.freeCount := rfl
@[simp] theorem State.pending_freeBuffers (s : State) (bs : List BufferId) : (s.freeBuffers bs).pending = s.pending := rfl

/-! ### changeState -/

@[simp] theorem State.run_changeState (s : State) (n : StreamId) (target : StreamState) : (s.changeState n target).run = s.run := by unfold State.changeState; split <;> rfl
@[simp] theorem State.global_changeState (s : State) (n : StreamId) (target : StreamState) : (s.changeState n target).global = s.global := by unfold State.changeState; split <;> rfl
@[simp] theorem State.faultReason_changeState (s : State) (n : StreamId) (target : StreamState) : (s.changeState n target).faultReason = s.faultReason := by unfold State.changeState; split <;> rfl
@[simp] theorem State.faultAddr_changeState (s : State) (n : StreamId) (target : StreamState) : (s.changeState n target).faultAddr = s.faultAddr := by unfold State.changeState; split <;> rfl
@[simp] theorem State.root_changeState (s : State) (n : StreamId) (target : StreamState) : (s.changeState n target).root = s.root := by unfold State.changeState; split <;> rfl
@[simp] theorem State.cause_changeState (s : State) (n : StreamId) (target : StreamState) : (s.changeState n target).cause = s.cause := by unfold State.changeState; split <;> rfl
@[simp] theorem State.enable_changeState (s : State) (n : StreamId) (target : StreamState) : (s.changeState n target).enable = s.enable := by unfold State.changeState; split <;> rfl
@[simp] theorem State.resetHeld_changeState (s : State) (n : StreamId) (target : StreamState) : (s.changeState n target).resetHeld = s.resetHeld := by unfold State.changeState; split <;> rfl
@[simp] theorem State.time_changeState (s : State) (n : StreamId) (target : StreamState) : (s.changeState n target).time = s.time := by unfold State.changeState; split <;> rfl
@[simp] theorem State.port_changeState (s : State) (n : StreamId) (target : StreamState) : (s.changeState n target).port = s.port := by unfold State.changeState; split <;> rfl
@[simp] theorem State.store_changeState (s : State) (n : StreamId) (target : StreamState) : (s.changeState n target).store = s.store := by unfold State.changeState; split <;> rfl
@[simp] theorem State.pages_changeState (s : State) (n : StreamId) (target : StreamState) : (s.changeState n target).pages = s.pages := by unfold State.changeState; split <;> rfl
@[simp] theorem State.lane_changeState (s : State) (n : StreamId) (target : StreamState) : (s.changeState n target).lane = s.lane := by unfold State.changeState; split <;> rfl
@[simp] theorem State.rxA_changeState (s : State) (n : StreamId) (target : StreamState) : (s.changeState n target).rxA = s.rxA := by unfold State.changeState; split <;> rfl
@[simp] theorem State.rxB_changeState (s : State) (n : StreamId) (target : StreamState) : (s.changeState n target).rxB = s.rxB := by unfold State.changeState; split <;> rfl
@[simp] theorem State.acceptance_changeState (s : State) (n : StreamId) (target : StreamState) : (s.changeState n target).acceptance = s.acceptance := by unfold State.changeState; split <;> rfl
@[simp] theorem State.walker_changeState (s : State) (n : StreamId) (target : StreamState) : (s.changeState n target).walker = s.walker := by unfold State.changeState; split <;> rfl
@[simp] theorem State.sysMem_changeState (s : State) (n : StreamId) (target : StreamState) : (s.changeState n target).sysMem = s.sysMem := by unfold State.changeState; split <;> rfl
@[simp] theorem State.freeCount_changeState (s : State) (n : StreamId) (target : StreamState) : (s.changeState n target).freeCount = s.freeCount := by unfold State.changeState; split <;> rfl
@[simp] theorem State.pending_changeState (s : State) (n : StreamId) (target : StreamState) : (s.changeState n target).pending = s.pending := by unfold State.changeState; split <;> rfl

/-! ### setSupply -/

@[simp] theorem State.run_setSupply (s : State) (n : StreamId) (l : List Word) : (s.setSupply n l).run = s.run := rfl
@[simp] theorem State.global_setSupply (s : State) (n : StreamId) (l : List Word) : (s.setSupply n l).global = s.global := rfl
@[simp] theorem State.faultReason_setSupply (s : State) (n : StreamId) (l : List Word) : (s.setSupply n l).faultReason = s.faultReason := rfl
@[simp] theorem State.faultAddr_setSupply (s : State) (n : StreamId) (l : List Word) : (s.setSupply n l).faultAddr = s.faultAddr := rfl
@[simp] theorem State.root_setSupply (s : State) (n : StreamId) (l : List Word) : (s.setSupply n l).root = s.root := rfl
@[simp] theorem State.cause_setSupply (s : State) (n : StreamId) (l : List Word) : (s.setSupply n l).cause = s.cause := rfl
@[simp] theorem State.enable_setSupply (s : State) (n : StreamId) (l : List Word) : (s.setSupply n l).enable = s.enable := rfl
@[simp] theorem State.resetHeld_setSupply (s : State) (n : StreamId) (l : List Word) : (s.setSupply n l).resetHeld = s.resetHeld := rfl
@[simp] theorem State.time_setSupply (s : State) (n : StreamId) (l : List Word) : (s.setSupply n l).time = s.time := rfl
@[simp] theorem State.port_setSupply (s : State) (n : StreamId) (l : List Word) : (s.setSupply n l).port = s.port := rfl
@[simp] theorem State.store_setSupply (s : State) (n : StreamId) (l : List Word) : (s.setSupply n l).store = s.store := rfl
@[simp] theorem State.lane_setSupply (s : State) (n : StreamId) (l : List Word) : (s.setSupply n l).lane = s.lane := rfl
@[simp] theorem State.rxA_setSupply (s : State) (n : StreamId) (l : List Word) : (s.setSupply n l).rxA = s.rxA := rfl
@[simp] theorem State.rxB_setSupply (s : State) (n : StreamId) (l : List Word) : (s.setSupply n l).rxB = s.rxB := rfl
@[simp] theorem State.acceptance_setSupply (s : State) (n : StreamId) (l : List Word) : (s.setSupply n l).acceptance = s.acceptance := rfl
@[simp] theorem State.walker_setSupply (s : State) (n : StreamId) (l : List Word) : (s.setSupply n l).walker = s.walker := rfl
@[simp] theorem State.tally_setSupply (s : State) (n : StreamId) (l : List Word) : (s.setSupply n l).tally = s.tally := rfl
@[simp] theorem State.sysMem_setSupply (s : State) (n : StreamId) (l : List Word) : (s.setSupply n l).sysMem = s.sysMem := rfl
@[simp] theorem State.freeCount_setSupply (s : State) (n : StreamId) (l : List Word) : (s.setSupply n l).freeCount = s.freeCount := rfl
@[simp] theorem State.pending_setSupply (s : State) (n : StreamId) (l : List Word) : (s.setSupply n l).pending = s.pending := rfl

/-! ### land -/

@[simp] theorem State.run_land (s : State) (tx : Tx) : (s.land tx).run = s.run := rfl
@[simp] theorem State.global_land (s : State) (tx : Tx) : (s.land tx).global = s.global := rfl
@[simp] theorem State.faultReason_land (s : State) (tx : Tx) : (s.land tx).faultReason = s.faultReason := rfl
@[simp] theorem State.faultAddr_land (s : State) (tx : Tx) : (s.land tx).faultAddr = s.faultAddr := rfl
@[simp] theorem State.root_land (s : State) (tx : Tx) : (s.land tx).root = s.root := rfl
@[simp] theorem State.cause_land (s : State) (tx : Tx) : (s.land tx).cause = s.cause := rfl
@[simp] theorem State.enable_land (s : State) (tx : Tx) : (s.land tx).enable = s.enable := rfl
@[simp] theorem State.resetHeld_land (s : State) (tx : Tx) : (s.land tx).resetHeld = s.resetHeld := rfl
@[simp] theorem State.time_land (s : State) (tx : Tx) : (s.land tx).time = s.time := rfl
@[simp] theorem State.streams_land (s : State) (tx : Tx) : (s.land tx).streams = s.streams := rfl
@[simp] theorem State.store_land (s : State) (tx : Tx) : (s.land tx).store = s.store := rfl
@[simp] theorem State.pages_land (s : State) (tx : Tx) : (s.land tx).pages = s.pages := rfl
@[simp] theorem State.lane_land (s : State) (tx : Tx) : (s.land tx).lane = s.lane := rfl
@[simp] theorem State.rxA_land (s : State) (tx : Tx) : (s.land tx).rxA = s.rxA := rfl
@[simp] theorem State.rxB_land (s : State) (tx : Tx) : (s.land tx).rxB = s.rxB := rfl
@[simp] theorem State.acceptance_land (s : State) (tx : Tx) : (s.land tx).acceptance = s.acceptance := rfl
@[simp] theorem State.walker_land (s : State) (tx : Tx) : (s.land tx).walker = s.walker := rfl
@[simp] theorem State.tally_land (s : State) (tx : Tx) : (s.land tx).tally = s.tally := rfl
@[simp] theorem State.freeCount_land (s : State) (tx : Tx) : (s.land tx).freeCount = s.freeCount := rfl
@[simp] theorem State.pending_land (s : State) (tx : Tx) : (s.land tx).pending = s.pending := rfl

/-! ### laneFree -/

@[simp] theorem State.run_laneFree (s : State) : (s.laneFree).run = s.run := rfl
@[simp] theorem State.global_laneFree (s : State) : (s.laneFree).global = s.global := rfl
@[simp] theorem State.faultReason_laneFree (s : State) : (s.laneFree).faultReason = s.faultReason := rfl
@[simp] theorem State.faultAddr_laneFree (s : State) : (s.laneFree).faultAddr = s.faultAddr := rfl
@[simp] theorem State.root_laneFree (s : State) : (s.laneFree).root = s.root := rfl
@[simp] theorem State.cause_laneFree (s : State) : (s.laneFree).cause = s.cause := rfl
@[simp] theorem State.enable_laneFree (s : State) : (s.laneFree).enable = s.enable := rfl
@[simp] theorem State.resetHeld_laneFree (s : State) : (s.laneFree).resetHeld = s.resetHeld := rfl
@[simp] theorem State.time_laneFree (s : State) : (s.laneFree).time = s.time := rfl
@[simp] theorem State.port_laneFree (s : State) : (s.laneFree).port = s.port := rfl
@[simp] theorem State.streams_laneFree (s : State) : (s.laneFree).streams = s.streams := rfl
@[simp] theorem State.store_laneFree (s : State) : (s.laneFree).store = s.store := rfl
@[simp] theorem State.pages_laneFree (s : State) : (s.laneFree).pages = s.pages := rfl
@[simp] theorem State.rxA_laneFree (s : State) : (s.laneFree).rxA = s.rxA := rfl
@[simp] theorem State.rxB_laneFree (s : State) : (s.laneFree).rxB = s.rxB := rfl
@[simp] theorem State.acceptance_laneFree (s : State) : (s.laneFree).acceptance = s.acceptance := rfl
@[simp] theorem State.walker_laneFree (s : State) : (s.laneFree).walker = s.walker := rfl
@[simp] theorem State.tally_laneFree (s : State) : (s.laneFree).tally = s.tally := rfl
@[simp] theorem State.sysMem_laneFree (s : State) : (s.laneFree).sysMem = s.sysMem := rfl
@[simp] theorem State.freeCount_laneFree (s : State) : (s.laneFree).freeCount = s.freeCount := rfl
@[simp] theorem State.pending_laneFree (s : State) : (s.laneFree).pending = s.pending := rfl

/-! ### beginOp -/

@[simp] theorem State.run_beginOp (s : State) (n : StreamId) (op : LaneOp) (txs : List Tx) : (s.beginOp n op txs).run = s.run := rfl
@[simp] theorem State.global_beginOp (s : State) (n : StreamId) (op : LaneOp) (txs : List Tx) : (s.beginOp n op txs).global = s.global := rfl
@[simp] theorem State.faultReason_beginOp (s : State) (n : StreamId) (op : LaneOp) (txs : List Tx) : (s.beginOp n op txs).faultReason = s.faultReason := rfl
@[simp] theorem State.faultAddr_beginOp (s : State) (n : StreamId) (op : LaneOp) (txs : List Tx) : (s.beginOp n op txs).faultAddr = s.faultAddr := rfl
@[simp] theorem State.root_beginOp (s : State) (n : StreamId) (op : LaneOp) (txs : List Tx) : (s.beginOp n op txs).root = s.root := rfl
@[simp] theorem State.cause_beginOp (s : State) (n : StreamId) (op : LaneOp) (txs : List Tx) : (s.beginOp n op txs).cause = s.cause := rfl
@[simp] theorem State.enable_beginOp (s : State) (n : StreamId) (op : LaneOp) (txs : List Tx) : (s.beginOp n op txs).enable = s.enable := rfl
@[simp] theorem State.resetHeld_beginOp (s : State) (n : StreamId) (op : LaneOp) (txs : List Tx) : (s.beginOp n op txs).resetHeld = s.resetHeld := rfl
@[simp] theorem State.time_beginOp (s : State) (n : StreamId) (op : LaneOp) (txs : List Tx) : (s.beginOp n op txs).time = s.time := rfl
@[simp] theorem State.port_beginOp (s : State) (n : StreamId) (op : LaneOp) (txs : List Tx) : (s.beginOp n op txs).port = s.port := rfl
@[simp] theorem State.streams_beginOp (s : State) (n : StreamId) (op : LaneOp) (txs : List Tx) : (s.beginOp n op txs).streams = s.streams := rfl
@[simp] theorem State.store_beginOp (s : State) (n : StreamId) (op : LaneOp) (txs : List Tx) : (s.beginOp n op txs).store = s.store := rfl
@[simp] theorem State.pages_beginOp (s : State) (n : StreamId) (op : LaneOp) (txs : List Tx) : (s.beginOp n op txs).pages = s.pages := rfl
@[simp] theorem State.rxA_beginOp (s : State) (n : StreamId) (op : LaneOp) (txs : List Tx) : (s.beginOp n op txs).rxA = s.rxA := rfl
@[simp] theorem State.rxB_beginOp (s : State) (n : StreamId) (op : LaneOp) (txs : List Tx) : (s.beginOp n op txs).rxB = s.rxB := rfl
@[simp] theorem State.acceptance_beginOp (s : State) (n : StreamId) (op : LaneOp) (txs : List Tx) : (s.beginOp n op txs).acceptance = s.acceptance := rfl
@[simp] theorem State.walker_beginOp (s : State) (n : StreamId) (op : LaneOp) (txs : List Tx) : (s.beginOp n op txs).walker = s.walker := rfl
@[simp] theorem State.tally_beginOp (s : State) (n : StreamId) (op : LaneOp) (txs : List Tx) : (s.beginOp n op txs).tally = s.tally := rfl
@[simp] theorem State.sysMem_beginOp (s : State) (n : StreamId) (op : LaneOp) (txs : List Tx) : (s.beginOp n op txs).sysMem = s.sysMem := rfl
@[simp] theorem State.freeCount_beginOp (s : State) (n : StreamId) (op : LaneOp) (txs : List Tx) : (s.beginOp n op txs).freeCount = s.freeCount := rfl
@[simp] theorem State.pending_beginOp (s : State) (n : StreamId) (op : LaneOp) (txs : List Tx) : (s.beginOp n op txs).pending = s.pending := rfl

/-! ### countAcceptance -/

@[simp] theorem State.run_countAcceptance (s : State) (f : AcceptanceCounters → AcceptanceCounters) : (s.countAcceptance f).run = s.run := rfl
@[simp] theorem State.global_countAcceptance (s : State) (f : AcceptanceCounters → AcceptanceCounters) : (s.countAcceptance f).global = s.global := rfl
@[simp] theorem State.faultReason_countAcceptance (s : State) (f : AcceptanceCounters → AcceptanceCounters) : (s.countAcceptance f).faultReason = s.faultReason := rfl
@[simp] theorem State.faultAddr_countAcceptance (s : State) (f : AcceptanceCounters → AcceptanceCounters) : (s.countAcceptance f).faultAddr = s.faultAddr := rfl
@[simp] theorem State.root_countAcceptance (s : State) (f : AcceptanceCounters → AcceptanceCounters) : (s.countAcceptance f).root = s.root := rfl
@[simp] theorem State.cause_countAcceptance (s : State) (f : AcceptanceCounters → AcceptanceCounters) : (s.countAcceptance f).cause = s.cause := rfl
@[simp] theorem State.enable_countAcceptance (s : State) (f : AcceptanceCounters → AcceptanceCounters) : (s.countAcceptance f).enable = s.enable := rfl
@[simp] theorem State.resetHeld_countAcceptance (s : State) (f : AcceptanceCounters → AcceptanceCounters) : (s.countAcceptance f).resetHeld = s.resetHeld := rfl
@[simp] theorem State.time_countAcceptance (s : State) (f : AcceptanceCounters → AcceptanceCounters) : (s.countAcceptance f).time = s.time := rfl
@[simp] theorem State.port_countAcceptance (s : State) (f : AcceptanceCounters → AcceptanceCounters) : (s.countAcceptance f).port = s.port := rfl
@[simp] theorem State.streams_countAcceptance (s : State) (f : AcceptanceCounters → AcceptanceCounters) : (s.countAcceptance f).streams = s.streams := rfl
@[simp] theorem State.store_countAcceptance (s : State) (f : AcceptanceCounters → AcceptanceCounters) : (s.countAcceptance f).store = s.store := rfl
@[simp] theorem State.pages_countAcceptance (s : State) (f : AcceptanceCounters → AcceptanceCounters) : (s.countAcceptance f).pages = s.pages := rfl
@[simp] theorem State.lane_countAcceptance (s : State) (f : AcceptanceCounters → AcceptanceCounters) : (s.countAcceptance f).lane = s.lane := rfl
@[simp] theorem State.rxA_countAcceptance (s : State) (f : AcceptanceCounters → AcceptanceCounters) : (s.countAcceptance f).rxA = s.rxA := rfl
@[simp] theorem State.rxB_countAcceptance (s : State) (f : AcceptanceCounters → AcceptanceCounters) : (s.countAcceptance f).rxB = s.rxB := rfl
@[simp] theorem State.walker_countAcceptance (s : State) (f : AcceptanceCounters → AcceptanceCounters) : (s.countAcceptance f).walker = s.walker := rfl
@[simp] theorem State.sysMem_countAcceptance (s : State) (f : AcceptanceCounters → AcceptanceCounters) : (s.countAcceptance f).sysMem = s.sysMem := rfl
@[simp] theorem State.freeCount_countAcceptance (s : State) (f : AcceptanceCounters → AcceptanceCounters) : (s.countAcceptance f).freeCount = s.freeCount := rfl
@[simp] theorem State.pending_countAcceptance (s : State) (f : AcceptanceCounters → AcceptanceCounters) : (s.countAcceptance f).pending = s.pending := rfl

/-! ### countLink -/

@[simp] theorem State.run_countLink (s : State) (l : LinkId) (f : LinkCounters → LinkCounters) : (s.countLink l f).run = s.run := by cases l <;> rfl
@[simp] theorem State.global_countLink (s : State) (l : LinkId) (f : LinkCounters → LinkCounters) : (s.countLink l f).global = s.global := by cases l <;> rfl
@[simp] theorem State.faultReason_countLink (s : State) (l : LinkId) (f : LinkCounters → LinkCounters) : (s.countLink l f).faultReason = s.faultReason := by cases l <;> rfl
@[simp] theorem State.faultAddr_countLink (s : State) (l : LinkId) (f : LinkCounters → LinkCounters) : (s.countLink l f).faultAddr = s.faultAddr := by cases l <;> rfl
@[simp] theorem State.root_countLink (s : State) (l : LinkId) (f : LinkCounters → LinkCounters) : (s.countLink l f).root = s.root := by cases l <;> rfl
@[simp] theorem State.cause_countLink (s : State) (l : LinkId) (f : LinkCounters → LinkCounters) : (s.countLink l f).cause = s.cause := by cases l <;> rfl
@[simp] theorem State.enable_countLink (s : State) (l : LinkId) (f : LinkCounters → LinkCounters) : (s.countLink l f).enable = s.enable := by cases l <;> rfl
@[simp] theorem State.resetHeld_countLink (s : State) (l : LinkId) (f : LinkCounters → LinkCounters) : (s.countLink l f).resetHeld = s.resetHeld := by cases l <;> rfl
@[simp] theorem State.time_countLink (s : State) (l : LinkId) (f : LinkCounters → LinkCounters) : (s.countLink l f).time = s.time := by cases l <;> rfl
@[simp] theorem State.port_countLink (s : State) (l : LinkId) (f : LinkCounters → LinkCounters) : (s.countLink l f).port = s.port := by cases l <;> rfl
@[simp] theorem State.streams_countLink (s : State) (l : LinkId) (f : LinkCounters → LinkCounters) : (s.countLink l f).streams = s.streams := by cases l <;> rfl
@[simp] theorem State.store_countLink (s : State) (l : LinkId) (f : LinkCounters → LinkCounters) : (s.countLink l f).store = s.store := by cases l <;> rfl
@[simp] theorem State.pages_countLink (s : State) (l : LinkId) (f : LinkCounters → LinkCounters) : (s.countLink l f).pages = s.pages := by cases l <;> rfl
@[simp] theorem State.lane_countLink (s : State) (l : LinkId) (f : LinkCounters → LinkCounters) : (s.countLink l f).lane = s.lane := by cases l <;> rfl
@[simp] theorem State.acceptance_countLink (s : State) (l : LinkId) (f : LinkCounters → LinkCounters) : (s.countLink l f).acceptance = s.acceptance := by cases l <;> rfl
@[simp] theorem State.walker_countLink (s : State) (l : LinkId) (f : LinkCounters → LinkCounters) : (s.countLink l f).walker = s.walker := by cases l <;> rfl
@[simp] theorem State.sysMem_countLink (s : State) (l : LinkId) (f : LinkCounters → LinkCounters) : (s.countLink l f).sysMem = s.sysMem := by cases l <;> rfl
@[simp] theorem State.freeCount_countLink (s : State) (l : LinkId) (f : LinkCounters → LinkCounters) : (s.countLink l f).freeCount = s.freeCount := by cases l <;> rfl
@[simp] theorem State.pending_countLink (s : State) (l : LinkId) (f : LinkCounters → LinkCounters) : (s.countLink l f).pending = s.pending := by cases l <;> rfl

/-! ### releaseStaging -/

@[simp] theorem State.run_releaseStaging (s : State) (l : LinkId) (i : Fin 2) : (s.releaseStaging l i).run = s.run := by cases l <;> rfl
@[simp] theorem State.global_releaseStaging (s : State) (l : LinkId) (i : Fin 2) : (s.releaseStaging l i).global = s.global := by cases l <;> rfl
@[simp] theorem State.faultReason_releaseStaging (s : State) (l : LinkId) (i : Fin 2) : (s.releaseStaging l i).faultReason = s.faultReason := by cases l <;> rfl
@[simp] theorem State.faultAddr_releaseStaging (s : State) (l : LinkId) (i : Fin 2) : (s.releaseStaging l i).faultAddr = s.faultAddr := by cases l <;> rfl
@[simp] theorem State.root_releaseStaging (s : State) (l : LinkId) (i : Fin 2) : (s.releaseStaging l i).root = s.root := by cases l <;> rfl
@[simp] theorem State.cause_releaseStaging (s : State) (l : LinkId) (i : Fin 2) : (s.releaseStaging l i).cause = s.cause := by cases l <;> rfl
@[simp] theorem State.enable_releaseStaging (s : State) (l : LinkId) (i : Fin 2) : (s.releaseStaging l i).enable = s.enable := by cases l <;> rfl
@[simp] theorem State.resetHeld_releaseStaging (s : State) (l : LinkId) (i : Fin 2) : (s.releaseStaging l i).resetHeld = s.resetHeld := by cases l <;> rfl
@[simp] theorem State.time_releaseStaging (s : State) (l : LinkId) (i : Fin 2) : (s.releaseStaging l i).time = s.time := by cases l <;> rfl
@[simp] theorem State.port_releaseStaging (s : State) (l : LinkId) (i : Fin 2) : (s.releaseStaging l i).port = s.port := by cases l <;> rfl
@[simp] theorem State.streams_releaseStaging (s : State) (l : LinkId) (i : Fin 2) : (s.releaseStaging l i).streams = s.streams := by cases l <;> rfl
@[simp] theorem State.store_releaseStaging (s : State) (l : LinkId) (i : Fin 2) : (s.releaseStaging l i).store = s.store := by cases l <;> rfl
@[simp] theorem State.pages_releaseStaging (s : State) (l : LinkId) (i : Fin 2) : (s.releaseStaging l i).pages = s.pages := by cases l <;> rfl
@[simp] theorem State.lane_releaseStaging (s : State) (l : LinkId) (i : Fin 2) : (s.releaseStaging l i).lane = s.lane := by cases l <;> rfl
@[simp] theorem State.acceptance_releaseStaging (s : State) (l : LinkId) (i : Fin 2) : (s.releaseStaging l i).acceptance = s.acceptance := by cases l <;> rfl
@[simp] theorem State.walker_releaseStaging (s : State) (l : LinkId) (i : Fin 2) : (s.releaseStaging l i).walker = s.walker := by cases l <;> rfl
@[simp] theorem State.tally_releaseStaging (s : State) (l : LinkId) (i : Fin 2) : (s.releaseStaging l i).tally = s.tally := by cases l <;> rfl
@[simp] theorem State.sysMem_releaseStaging (s : State) (l : LinkId) (i : Fin 2) : (s.releaseStaging l i).sysMem = s.sysMem := by cases l <;> rfl
@[simp] theorem State.freeCount_releaseStaging (s : State) (l : LinkId) (i : Fin 2) : (s.releaseStaging l i).freeCount = s.freeCount := by cases l <;> rfl
@[simp] theorem State.pending_releaseStaging (s : State) (l : LinkId) (i : Fin 2) : (s.releaseStaging l i).pending = s.pending := by cases l <;> rfl

/-! ### setRouteEntry -/

@[simp] theorem State.run_setRouteEntry (s : State) (i : Fin 64) (e : Option Route) : (s.setRouteEntry i e).run = s.run := rfl
@[simp] theorem State.global_setRouteEntry (s : State) (i : Fin 64) (e : Option Route) : (s.setRouteEntry i e).global = s.global := rfl
@[simp] theorem State.faultReason_setRouteEntry (s : State) (i : Fin 64) (e : Option Route) : (s.setRouteEntry i e).faultReason = s.faultReason := rfl
@[simp] theorem State.faultAddr_setRouteEntry (s : State) (i : Fin 64) (e : Option Route) : (s.setRouteEntry i e).faultAddr = s.faultAddr := rfl
@[simp] theorem State.root_setRouteEntry (s : State) (i : Fin 64) (e : Option Route) : (s.setRouteEntry i e).root = s.root := rfl
@[simp] theorem State.cause_setRouteEntry (s : State) (i : Fin 64) (e : Option Route) : (s.setRouteEntry i e).cause = s.cause := rfl
@[simp] theorem State.enable_setRouteEntry (s : State) (i : Fin 64) (e : Option Route) : (s.setRouteEntry i e).enable = s.enable := rfl
@[simp] theorem State.resetHeld_setRouteEntry (s : State) (i : Fin 64) (e : Option Route) : (s.setRouteEntry i e).resetHeld = s.resetHeld := rfl
@[simp] theorem State.time_setRouteEntry (s : State) (i : Fin 64) (e : Option Route) : (s.setRouteEntry i e).time = s.time := rfl
@[simp] theorem State.port_setRouteEntry (s : State) (i : Fin 64) (e : Option Route) : (s.setRouteEntry i e).port = s.port := rfl
@[simp] theorem State.streams_setRouteEntry (s : State) (i : Fin 64) (e : Option Route) : (s.setRouteEntry i e).streams = s.streams := rfl
@[simp] theorem State.store_setRouteEntry (s : State) (i : Fin 64) (e : Option Route) : (s.setRouteEntry i e).store = s.store := rfl
@[simp] theorem State.pages_setRouteEntry (s : State) (i : Fin 64) (e : Option Route) : (s.setRouteEntry i e).pages = s.pages := rfl
@[simp] theorem State.lane_setRouteEntry (s : State) (i : Fin 64) (e : Option Route) : (s.setRouteEntry i e).lane = s.lane := rfl
@[simp] theorem State.rxA_setRouteEntry (s : State) (i : Fin 64) (e : Option Route) : (s.setRouteEntry i e).rxA = s.rxA := rfl
@[simp] theorem State.rxB_setRouteEntry (s : State) (i : Fin 64) (e : Option Route) : (s.setRouteEntry i e).rxB = s.rxB := rfl
@[simp] theorem State.walker_setRouteEntry (s : State) (i : Fin 64) (e : Option Route) : (s.setRouteEntry i e).walker = s.walker := rfl
@[simp] theorem State.tally_setRouteEntry (s : State) (i : Fin 64) (e : Option Route) : (s.setRouteEntry i e).tally = s.tally := rfl
@[simp] theorem State.sysMem_setRouteEntry (s : State) (i : Fin 64) (e : Option Route) : (s.setRouteEntry i e).sysMem = s.sysMem := rfl
@[simp] theorem State.freeCount_setRouteEntry (s : State) (i : Fin 64) (e : Option Route) : (s.setRouteEntry i e).freeCount = s.freeCount := rfl
@[simp] theorem State.pending_setRouteEntry (s : State) (i : Fin 64) (e : Option Route) : (s.setRouteEntry i e).pending = s.pending := rfl

/-! ### What the updates set -/

@[simp] theorem State.stream_setStream_self (s : State) (n : StreamId) (st : Stream) :
    (s.setStream n st).stream n = st := by simp [State.stream, State.setStream]

theorem State.stream_setStream_ne (s : State) (n m : StreamId) (st : Stream) (h : m ≠ n) :
    (s.setStream n st).stream m = s.stream m := by
  have : n.val ≠ m.val := fun e => h (Fin.ext e.symm)
  simp [State.stream, State.setStream, this]

theorem State.stream_setStream (s : State) (n m : StreamId) (st : Stream) :
    (s.setStream n st).stream m = if m = n then st else s.stream m := by
  split
  · subst m; simp
  · exact State.stream_setStream_ne s n m st ‹_›

@[simp] theorem State.stream_modStream_self (s : State) (n : StreamId) (f : Stream → Stream) :
    (s.modStream n f).stream n = f (s.stream n) := State.stream_setStream_self s n _

theorem State.stream_modStream_ne (s : State) (n m : StreamId) (f : Stream → Stream) (h : m ≠ n) :
    (s.modStream n f).stream m = s.stream m := State.stream_setStream_ne s n m _ h

theorem State.stream_modStream (s : State) (n m : StreamId) (f : Stream → Stream) :
    (s.modStream n f).stream m = if m = n then f (s.stream n) else s.stream m := State.stream_setStream s n m _

@[simp] theorem State.page_setPage_self (s : State) (n : StreamId) (p : PageState) :
    (s.setPage n p).page n = p := by simp [State.page, State.setPage]

theorem State.page_setPage_ne (s : State) (n m : StreamId) (p : PageState) (h : m ≠ n) :
    (s.setPage n p).page m = s.page m := by
  have : n.val ≠ m.val := fun e => h (Fin.ext e.symm)
  simp [State.page, State.setPage, this]

theorem State.page_setPage (s : State) (n m : StreamId) (p : PageState) :
    (s.setPage n p).page m = if m = n then p else s.page m := by
  split
  · subst m; simp
  · exact State.page_setPage_ne s n m p ‹_›

@[simp] theorem State.page_modPage_self (s : State) (n : StreamId) (f : PageState → PageState) :
    (s.modPage n f).page n = f (s.page n) := State.page_setPage_self s n _

theorem State.page_modPage_ne (s : State) (n m : StreamId) (f : PageState → PageState) (h : m ≠ n) :
    (s.modPage n f).page m = s.page m := State.page_setPage_ne s n m _ h

theorem State.page_modPage (s : State) (n m : StreamId) (f : PageState → PageState) :
    (s.modPage n f).page m = if m = n then f (s.page n) else s.page m := State.page_setPage s n m _

@[simp] theorem State.rx_setRx_self (s : State) (l : LinkId) (r : Receiver) : (s.setRx l r).rx l = r := by
  cases l <;> rfl

theorem State.rx_setRx_ne (s : State) (l k : LinkId) (r : Receiver) (h : k ≠ l) : (s.setRx l r).rx k = s.rx k := by
  cases l <;> cases k <;> first | rfl | exact absurd rfl h

@[simp] theorem State.setRx_setRx (s : State) (l : LinkId) (r q : Receiver) :
    (s.setRx l r).setRx l q = s.setRx l q := by cases l <;> rfl

@[simp] theorem State.setStream_setStream (s : State) (n : StreamId) (a b : Stream) :
    (s.setStream n a).setStream n b = s.setStream n b := by simp [State.setStream]

@[simp] theorem State.setPage_setPage (s : State) (n : StreamId) (a b : PageState) :
    (s.setPage n a).setPage n b = s.setPage n b := by simp [State.setPage]

theorem State.modStream_modStream (s : State) (n : StreamId) (f g : Stream → Stream) :
    (s.modStream n f).modStream n g = s.modStream n (fun st => g (f st)) := by
  simp [State.modStream]

@[simp] theorem State.setStream_stream (s : State) (n : StreamId) : s.setStream n (s.stream n) = s := by
  simp [State.setStream, State.stream]

@[simp] theorem State.stream_setSupply_self (s : State) (n : StreamId) (l : List Word) :
    (s.setSupply n l).stream n =
      { s.stream n with changed := (s.stream n).changed || (s.page n).supply.length != l.length } := by
  simp only [State.setSupply, State.stream_modStream_self]
  rfl

theorem State.stream_setSupply_ne (s : State) (n m : StreamId) (l : List Word) (h : m ≠ n) :
    (s.setSupply n l).stream m = s.stream m := by
  simp only [State.setSupply, State.stream_modStream_ne _ _ _ _ h]
  rfl

@[simp] theorem State.page_setSupply_self (s : State) (n : StreamId) (l : List Word) :
    (s.setSupply n l).page n = { s.page n with supply := l } := by
  simp only [State.setSupply]
  exact State.page_modPage_self s n (fun pg => { pg with supply := l })

theorem State.page_setSupply_ne (s : State) (n m : StreamId) (l : List Word) (h : m ≠ n) :
    (s.setSupply n l).page m = s.page m := by
  simp only [State.setSupply]
  exact State.page_modPage_ne s n m (fun pg => { pg with supply := l }) h

/-- Two states with the same streams, by number. -/
theorem State.streams_ext {a b : Vector Stream 64} (h : ∀ n : StreamId, a[n] = b[n]) : a = b :=
  Vector.ext fun i hi => h ⟨i, hi⟩

/-! ### Streams, pages and receivers under the other updates -/

@[simp] theorem State.stream_setPage (s : State) (n : StreamId) (p : PageState) (m : StreamId) : (s.setPage n p).stream m = s.stream m := by simp [State.stream]
@[simp] theorem State.stream_modPage (s : State) (n : StreamId) (f : PageState → PageState) (m : StreamId) : (s.modPage n f).stream m = s.stream m := by simp [State.stream]
@[simp] theorem State.stream_setRx (s : State) (l : LinkId) (r : Receiver) (m : StreamId) : (s.setRx l r).stream m = s.stream m := by simp [State.stream]
@[simp] theorem State.stream_setWalker (s : State) (w : Walker) (m : StreamId) : (s.setWalker w).stream m = s.stream m := by simp [State.stream]
@[simp] theorem State.stream_setActivity (s : State) (a : Activity) (m : StreamId) : (s.setActivity a).stream m = s.stream m := by simp [State.stream]
@[simp] theorem State.stream_answer (s : State) (ref : RecordRef) (c : ResultCode) (v : Word) (m : StreamId) : (s.answer ref c v).stream m = s.stream m := by simp [State.stream]
@[simp] theorem State.stream_setDeadlines (s : State) (q : List Deadline) (m : StreamId) : (s.setDeadlines q).stream m = s.stream m := by simp [State.stream]
@[simp] theorem State.stream_arm (s : State) (n : StreamId) (k : DeadlineKind) (d : Word) (m : StreamId) : (s.arm n k d).stream m = s.stream m := by simp [State.stream]
@[simp] theorem State.stream_cancel (s : State) (n : StreamId) (k : DeadlineKind) (m : StreamId) : (s.cancel n k).stream m = s.stream m := by simp [State.stream]
@[simp] theorem State.stream_raise (s : State) (b : BitVec 7) (m : StreamId) : (s.raise b).stream m = s.stream m := by simp [State.stream]
@[simp] theorem State.stream_raiseIf (s : State) (c : Bool) (b : BitVec 7) (m : StreamId) : (s.raiseIf c b).stream m = s.stream m := by simp [State.stream]
@[simp] theorem State.stream_alarm (s : State) (n : StreamId) (m : StreamId) : (s.alarm n).stream m = s.stream m := by simp [State.stream]
@[simp] theorem State.stream_markDevice (s : State) (m : StreamId) : (s.markDevice).stream m = s.stream m := by simp [State.stream]
@[simp] theorem State.stream_join (s : State) (i : Fin 65) (m : StreamId) : (s.join i).stream m = s.stream m := by simp [State.stream]
@[simp] theorem State.stream_joinChanged (s : State) (m : StreamId) : (s.joinChanged).stream m = s.stream m := by simp [State.stream]
@[simp] theorem State.stream_freeBuffers (s : State) (bs : List BufferId) (m : StreamId) : (s.freeBuffers bs).stream m = s.stream m := by simp [State.stream]
@[simp] theorem State.stream_land (s : State) (tx : Tx) (m : StreamId) : (s.land tx).stream m = s.stream m := by simp [State.stream]
@[simp] theorem State.stream_laneFree (s : State) (m : StreamId) : (s.laneFree).stream m = s.stream m := by simp [State.stream]
@[simp] theorem State.stream_beginOp (s : State) (n : StreamId) (op : LaneOp) (txs : List Tx) (m : StreamId) : (s.beginOp n op txs).stream m = s.stream m := by simp [State.stream]
@[simp] theorem State.stream_countAcceptance (s : State) (f : AcceptanceCounters → AcceptanceCounters) (m : StreamId) : (s.countAcceptance f).stream m = s.stream m := by simp [State.stream]
@[simp] theorem State.stream_countLink (s : State) (l : LinkId) (f : LinkCounters → LinkCounters) (m : StreamId) : (s.countLink l f).stream m = s.stream m := by simp [State.stream]
@[simp] theorem State.stream_releaseStaging (s : State) (l : LinkId) (i : Fin 2) (m : StreamId) : (s.releaseStaging l i).stream m = s.stream m := by simp [State.stream]
@[simp] theorem State.stream_setRouteEntry (s : State) (i : Fin 64) (e : Option Route) (m : StreamId) : (s.setRouteEntry i e).stream m = s.stream m := by simp [State.stream]

@[simp] theorem State.page_setStream (s : State) (n : StreamId) (st : Stream) (m : StreamId) : (s.setStream n st).page m = s.page m := by simp [State.page]
@[simp] theorem State.page_modStream (s : State) (n : StreamId) (f : Stream → Stream) (m : StreamId) : (s.modStream n f).page m = s.page m := by simp [State.page]
@[simp] theorem State.page_setRx (s : State) (l : LinkId) (r : Receiver) (m : StreamId) : (s.setRx l r).page m = s.page m := by simp [State.page]
@[simp] theorem State.page_setWalker (s : State) (w : Walker) (m : StreamId) : (s.setWalker w).page m = s.page m := by simp [State.page]
@[simp] theorem State.page_setActivity (s : State) (a : Activity) (m : StreamId) : (s.setActivity a).page m = s.page m := by simp [State.page]
@[simp] theorem State.page_answer (s : State) (ref : RecordRef) (c : ResultCode) (v : Word) (m : StreamId) : (s.answer ref c v).page m = s.page m := by simp [State.page]
@[simp] theorem State.page_setDeadlines (s : State) (q : List Deadline) (m : StreamId) : (s.setDeadlines q).page m = s.page m := by simp [State.page]
@[simp] theorem State.page_arm (s : State) (n : StreamId) (k : DeadlineKind) (d : Word) (m : StreamId) : (s.arm n k d).page m = s.page m := by simp [State.page]
@[simp] theorem State.page_cancel (s : State) (n : StreamId) (k : DeadlineKind) (m : StreamId) : (s.cancel n k).page m = s.page m := by simp [State.page]
@[simp] theorem State.page_raise (s : State) (b : BitVec 7) (m : StreamId) : (s.raise b).page m = s.page m := by simp [State.page]
@[simp] theorem State.page_raiseIf (s : State) (c : Bool) (b : BitVec 7) (m : StreamId) : (s.raiseIf c b).page m = s.page m := by simp [State.page]
@[simp] theorem State.page_alarm (s : State) (n : StreamId) (m : StreamId) : (s.alarm n).page m = s.page m := by simp [State.page]
@[simp] theorem State.page_markDevice (s : State) (m : StreamId) : (s.markDevice).page m = s.page m := by simp [State.page]
@[simp] theorem State.page_join (s : State) (i : Fin 65) (m : StreamId) : (s.join i).page m = s.page m := by simp [State.page]
@[simp] theorem State.page_joinChanged (s : State) (m : StreamId) : (s.joinChanged).page m = s.page m := by simp [State.page]
@[simp] theorem State.page_freeBuffers (s : State) (bs : List BufferId) (m : StreamId) : (s.freeBuffers bs).page m = s.page m := by simp [State.page]
@[simp] theorem State.page_changeState (s : State) (n : StreamId) (target : StreamState) (m : StreamId) : (s.changeState n target).page m = s.page m := by simp [State.page]
@[simp] theorem State.page_land (s : State) (tx : Tx) (m : StreamId) : (s.land tx).page m = s.page m := by simp [State.page]
@[simp] theorem State.page_laneFree (s : State) (m : StreamId) : (s.laneFree).page m = s.page m := by simp [State.page]
@[simp] theorem State.page_beginOp (s : State) (n : StreamId) (op : LaneOp) (txs : List Tx) (m : StreamId) : (s.beginOp n op txs).page m = s.page m := by simp [State.page]
@[simp] theorem State.page_countAcceptance (s : State) (f : AcceptanceCounters → AcceptanceCounters) (m : StreamId) : (s.countAcceptance f).page m = s.page m := by simp [State.page]
@[simp] theorem State.page_countLink (s : State) (l : LinkId) (f : LinkCounters → LinkCounters) (m : StreamId) : (s.countLink l f).page m = s.page m := by simp [State.page]
@[simp] theorem State.page_releaseStaging (s : State) (l : LinkId) (i : Fin 2) (m : StreamId) : (s.releaseStaging l i).page m = s.page m := by simp [State.page]
@[simp] theorem State.page_setRouteEntry (s : State) (i : Fin 64) (e : Option Route) (m : StreamId) : (s.setRouteEntry i e).page m = s.page m := by simp [State.page]

@[simp] theorem State.rx_setStream (s : State) (n : StreamId) (st : Stream) (x : LinkId) : (s.setStream n st).rx x = s.rx x := by cases x <;> simp [State.rx]
@[simp] theorem State.rx_modStream (s : State) (n : StreamId) (f : Stream → Stream) (x : LinkId) : (s.modStream n f).rx x = s.rx x := by cases x <;> simp [State.rx]
@[simp] theorem State.rx_setPage (s : State) (n : StreamId) (p : PageState) (x : LinkId) : (s.setPage n p).rx x = s.rx x := by cases x <;> simp [State.rx]
@[simp] theorem State.rx_modPage (s : State) (n : StreamId) (f : PageState → PageState) (x : LinkId) : (s.modPage n f).rx x = s.rx x := by cases x <;> simp [State.rx]
@[simp] theorem State.rx_setWalker (s : State) (w : Walker) (x : LinkId) : (s.setWalker w).rx x = s.rx x := by cases x <;> simp [State.rx]
@[simp] theorem State.rx_setActivity (s : State) (a : Activity) (x : LinkId) : (s.setActivity a).rx x = s.rx x := by cases x <;> simp [State.rx]
@[simp] theorem State.rx_answer (s : State) (ref : RecordRef) (c : ResultCode) (v : Word) (x : LinkId) : (s.answer ref c v).rx x = s.rx x := by cases x <;> simp [State.rx]
@[simp] theorem State.rx_setDeadlines (s : State) (q : List Deadline) (x : LinkId) : (s.setDeadlines q).rx x = s.rx x := by cases x <;> simp [State.rx]
@[simp] theorem State.rx_arm (s : State) (n : StreamId) (k : DeadlineKind) (d : Word) (x : LinkId) : (s.arm n k d).rx x = s.rx x := by cases x <;> simp [State.rx]
@[simp] theorem State.rx_cancel (s : State) (n : StreamId) (k : DeadlineKind) (x : LinkId) : (s.cancel n k).rx x = s.rx x := by cases x <;> simp [State.rx]
@[simp] theorem State.rx_raise (s : State) (b : BitVec 7) (x : LinkId) : (s.raise b).rx x = s.rx x := by cases x <;> simp [State.rx]
@[simp] theorem State.rx_raiseIf (s : State) (c : Bool) (b : BitVec 7) (x : LinkId) : (s.raiseIf c b).rx x = s.rx x := by cases x <;> simp [State.rx]
@[simp] theorem State.rx_alarm (s : State) (n : StreamId) (x : LinkId) : (s.alarm n).rx x = s.rx x := by cases x <;> simp [State.rx]
@[simp] theorem State.rx_markDevice (s : State) (x : LinkId) : (s.markDevice).rx x = s.rx x := by cases x <;> simp [State.rx]
@[simp] theorem State.rx_join (s : State) (i : Fin 65) (x : LinkId) : (s.join i).rx x = s.rx x := by cases x <;> simp [State.rx]
@[simp] theorem State.rx_joinChanged (s : State) (x : LinkId) : (s.joinChanged).rx x = s.rx x := by cases x <;> simp [State.rx]
@[simp] theorem State.rx_freeBuffers (s : State) (bs : List BufferId) (x : LinkId) : (s.freeBuffers bs).rx x = s.rx x := by cases x <;> simp [State.rx]
@[simp] theorem State.rx_changeState (s : State) (n : StreamId) (target : StreamState) (x : LinkId) : (s.changeState n target).rx x = s.rx x := by cases x <;> simp [State.rx]
@[simp] theorem State.rx_setSupply (s : State) (n : StreamId) (l : List Word) (x : LinkId) : (s.setSupply n l).rx x = s.rx x := by cases x <;> simp [State.rx]
@[simp] theorem State.rx_land (s : State) (tx : Tx) (x : LinkId) : (s.land tx).rx x = s.rx x := by cases x <;> simp [State.rx]
@[simp] theorem State.rx_laneFree (s : State) (x : LinkId) : (s.laneFree).rx x = s.rx x := by cases x <;> simp [State.rx]
@[simp] theorem State.rx_beginOp (s : State) (n : StreamId) (op : LaneOp) (txs : List Tx) (x : LinkId) : (s.beginOp n op txs).rx x = s.rx x := by cases x <;> simp [State.rx]
@[simp] theorem State.rx_countAcceptance (s : State) (f : AcceptanceCounters → AcceptanceCounters) (x : LinkId) : (s.countAcceptance f).rx x = s.rx x := by cases x <;> simp [State.rx]
@[simp] theorem State.rx_setRouteEntry (s : State) (i : Fin 64) (e : Option Route) (x : LinkId) : (s.setRouteEntry i e).rx x = s.rx x := by cases x <;> simp [State.rx]

end Sys2Proof.Machine
end

