-- ==== Sys2Proof/Laws/Deadlines.lean ====
section
/-! SUPPORT. The Deadline Queue: what an arming and a cancel do to the entry of a stream and kind and to every other
entry, and that both keep at most one entry for each stream and kind (R44 to R46). -/

namespace Sys2Proof.Machine

open Sys2Proof

theorem Deadline.isFor_iff (e : Deadline) (n : StreamId) (k : DeadlineKind) :
    e.isFor n k = true ↔ e.stream = n ∧ e.kind = k := by simp [Deadline.isFor]

/-! ### Cancel -/

@[simp] theorem dueOf_removeDeadline_self (q : List Deadline) (n : StreamId) (k : DeadlineKind) :
    dueOf (removeDeadline q n k) n k = none := by
  induction q with
  | nil => rfl
  | cons e q ih =>
    simp only [removeDeadline, List.filter_cons] at ih ⊢
    split
    · rename_i h; simp at h; simp [dueOf, h, ih]
    · exact ih

theorem dueOf_removeDeadline_ne (q : List Deadline) {n m : StreamId} {k j : DeadlineKind} (h : ¬ (m = n ∧ j = k)) :
    dueOf (removeDeadline q n k) m j = dueOf q m j := by
  induction q with
  | nil => rfl
  | cons e q ih =>
    simp only [removeDeadline, List.filter_cons] at ih ⊢
    split
    · simp only [dueOf, ih]
    · rename_i hf
      have hn : e.isFor n k = true := by simpa using hf
      have hm : e.isFor m j = false := by
        rw [Bool.eq_false_iff]
        intro hc
        rw [Deadline.isFor_iff] at hn hc
        exact h ⟨hc.1.symm.trans hn.1, hc.2.symm.trans hn.2⟩
      simp only [dueOf, hm, ih]
      rfl

/-- A cancel with no entry has no effect (R46). -/
theorem removeDeadline_of_none {q : List Deadline} {n : StreamId} {k : DeadlineKind} (h : dueOf q n k = none) :
    removeDeadline q n k = q := by
  induction q with
  | nil => rfl
  | cons e q ih =>
    simp only [dueOf] at h
    split at h
    · exact absurd h (by simp)
    · rename_i hf
      simp only [removeDeadline, List.filter_cons, hf]
      simpa [removeDeadline] using ih h

/-! ### Arming -/

theorem dueOf_insertDeadline (tick : Word) (e : Deadline) (q : List Deadline) (m : StreamId) (j : DeadlineKind)
    (h : dueOf q e.stream e.kind = none) :
    dueOf (insertDeadline tick e q) m j = if e.isFor m j then some e.due else dueOf q m j := by
  induction q with
  | nil => rfl
  | cons x q ih =>
    simp only [dueOf] at h
    split at h
    · exact absurd h (by simp)
    · rename_i hx
      simp only [insertDeadline]
      split
      · rfl
      · simp only [dueOf, ih h]
        by_cases hj : x.isFor m j = true
        · have : e.isFor m j = false := by
            rw [Bool.eq_false_iff]
            intro hc
            rw [Deadline.isFor_iff] at hj hc
            apply hx
            rw [Deadline.isFor_iff]
            exact ⟨hj.1.trans hc.1.symm, hj.2.trans hc.2.symm⟩
          simp [hj, this]
        · simp [hj]

/-- After an arming the entry of the stream and kind has the new due tick (R45). -/
@[simp] theorem dueOf_armDeadlineIn_self (tick : Word) (q : List Deadline) (n : StreamId) (k : DeadlineKind) (d : Word) :
    dueOf (armDeadlineIn tick q n k d) n k = some d := by
  unfold armDeadlineIn
  rw [dueOf_insertDeadline _ _ _ _ _ (by simp)]
  simp [Deadline.isFor]

/-- An arming leaves every other entry as it was (R45). -/
theorem dueOf_armDeadlineIn_ne (tick : Word) (q : List Deadline) {n m : StreamId} {k j : DeadlineKind} (d : Word)
    (h : ¬ (m = n ∧ j = k)) : dueOf (armDeadlineIn tick q n k d) m j = dueOf q m j := by
  unfold armDeadlineIn
  rw [dueOf_insertDeadline _ _ _ _ _ (by simp), dueOf_removeDeadline_ne q h]
  have : ¬ (n = m ∧ k = j) := fun hc => h ⟨hc.1.symm, hc.2.symm⟩
  simp [Deadline.isFor, this]

/-! ### At most one entry for each stream and kind -/

/-- No two entries of a queue are for the same stream and kind. -/
def keysUnique (q : List Deadline) : Prop := q.Pairwise (fun a b => ¬ a.sameKey b)

theorem keysUnique_removeDeadline {q : List Deadline} (n : StreamId) (k : DeadlineKind) (h : keysUnique q) :
    keysUnique (removeDeadline q n k) := List.Pairwise.filter _ h

theorem mem_insertDeadline {tick : Word} {e x : Deadline} {q : List Deadline} :
    x ∈ insertDeadline tick e q ↔ x = e ∨ x ∈ q := by
  induction q with
  | nil => simp [insertDeadline]
  | cons y q ih =>
    simp only [insertDeadline]
    split
    · simp
    · simp [ih]; tauto

theorem keysUnique_insertDeadline {tick : Word} {e : Deadline} {q : List Deadline} (h : keysUnique q)
    (hn : ∀ x ∈ q, ¬ e.sameKey x) : keysUnique (insertDeadline tick e q) := by
  induction q with
  | nil => simp [insertDeadline, keysUnique]
  | cons y q ih =>
    have hc := List.pairwise_cons.mp h
    simp only [insertDeadline]
    split
    · exact List.pairwise_cons.mpr ⟨hn, h⟩
    · refine List.pairwise_cons.mpr ⟨?_, ih hc.2 (fun x hx => hn x (List.mem_cons_of_mem _ hx))⟩
      intro x hx
      rcases mem_insertDeadline.mp hx with rfl | hx
      · intro hs; exact hn y (List.mem_cons_self ..) ⟨hs.1.symm, hs.2.symm⟩
      · exact hc.1 x hx

theorem keysUnique_armDeadlineIn {tick : Word} {q : List Deadline} (n : StreamId) (k : DeadlineKind) (d : Word)
    (h : keysUnique q) : keysUnique (armDeadlineIn tick q n k d) := by
  refine keysUnique_insertDeadline (keysUnique_removeDeadline n k h) ?_
  intro x hx hs
  have := (List.mem_filter.mp hx).2
  simp [Deadline.isFor] at this
  exact this.elim (fun h1 => h1 hs.1.symm) (fun h2 => h2 hs.2.symm)

/-! ### The state -/

theorem State.deadline_arm_self (s : State) (n : StreamId) (k : DeadlineKind) (d : Word) :
    (s.arm n k d).deadline n k = some d := dueOf_armDeadlineIn_self _ _ n k d

theorem State.deadline_arm_ne (s : State) {n m : StreamId} {k j : DeadlineKind} (d : Word) (h : ¬ (m = n ∧ j = k)) :
    (s.arm n k d).deadline m j = s.deadline m j := dueOf_armDeadlineIn_ne _ _ d h

theorem State.deadline_cancel_self (s : State) (n : StreamId) (k : DeadlineKind) :
    (s.cancel n k).deadline n k = none := dueOf_removeDeadline_self _ n k

theorem State.deadline_cancel_ne (s : State) {n m : StreamId} {k j : DeadlineKind} (h : ¬ (m = n ∧ j = k)) :
    (s.cancel n k).deadline m j = s.deadline m j := dueOf_removeDeadline_ne _ h

theorem State.deadlinesUnique_arm {s : State} (n : StreamId) (k : DeadlineKind) (d : Word) (h : s.deadlinesUnique) :
    (s.arm n k d).deadlinesUnique := keysUnique_armDeadlineIn n k d h

theorem State.deadlinesUnique_cancel {s : State} (n : StreamId) (k : DeadlineKind) (h : s.deadlinesUnique) :
    (s.cancel n k).deadlinesUnique := keysUnique_removeDeadline n k h

/-- The law of the queue rests on the list of entries alone. -/
theorem State.deadlinesUnique_of_eq {s t : State} (e : t.time.deadlines = s.time.deadlines) (h : s.deadlinesUnique) :
    t.deadlinesUnique := by unfold State.deadlinesUnique; rw [e]; exact h

end Sys2Proof.Machine
end

