-- ==== Sys2Proof/Laws/Memory.lean ====
section
/-! SUPPORT. The list of written bytes: what a read gives after a write, and that every write keeps the canonical form. -/

namespace Sys2Proof.Machine

open Sys2Proof

/-! ### One byte -/

theorem Memory.read_put (m : Memory) (a x : Nat) (b : Byte) :
    (m.put a b).read x = if x = a then some b else m.read x := by
  induction m with
  | nil => simp [Memory.put, Memory.read]
  | cons e m ih =>
    obtain ⟨y, c⟩ := e
    simp only [Memory.put]
    split
    · simp [Memory.read]
    · split
      · subst y; simp only [Memory.read]; split <;> rfl
      · simp only [Memory.read, ih]
        by_cases hx : x = y
        · subst x; simp [Ne.symm ‹¬ a = y›]
        · simp [hx]

@[simp] theorem Memory.read_put_self (m : Memory) (a : Nat) (b : Byte) : (m.put a b).read a = some b := by
  simp [Memory.read_put]

theorem Memory.read_put_ne (m : Memory) {a x : Nat} (b : Byte) (h : x ≠ a) : (m.put a b).read x = m.read x := by
  simp [Memory.read_put, h]

/-- Every listed address is above a bound. -/
def Memory.above (k : Nat) (m : Memory) : Prop := ∀ e ∈ m, k < e.1

theorem Memory.wf_cons (e : Host.Cell) (m : Memory) :
    Memory.wf (e :: m) = true ↔ Memory.above e.1 m ∧ Memory.wf m = true := by
  obtain ⟨x, b⟩ := e
  induction m generalizing x b with
  | nil => simp [Memory.wf, Memory.above]
  | cons e m ih =>
    obtain ⟨y, c⟩ := e
    have hy := ih y c
    simp only [Memory.wf, Bool.and_eq_true, decide_eq_true_eq]
    constructor
    · rintro ⟨hxy, hw⟩
      refine ⟨?_, hw⟩
      intro e he
      rcases List.mem_cons.mp he with rfl | he
      · exact hxy
      · exact lt_trans hxy ((hy.mp hw).1 e he)
    · rintro ⟨ha, hw⟩
      exact ⟨ha (y, c) (List.mem_cons_self ..), hw⟩

theorem Memory.above_put {k : Nat} {m : Memory} {a : Nat} (b : Byte) (hm : Memory.above k m) (ha : k < a) :
    Memory.above k (m.put a b) := by
  induction m with
  | nil => intro e he; simp [Memory.put] at he; subst e; exact ha
  | cons e m ih =>
    obtain ⟨y, c⟩ := e
    have hy : k < y := hm _ (List.mem_cons_self ..)
    have hm' : Memory.above k m := fun e he => hm e (List.mem_cons_of_mem _ he)
    simp only [Memory.put]
    split
    · intro e he
      rcases List.mem_cons.mp he with rfl | he
      · exact ha
      · exact hm e he
    · split
      · intro e he
        rcases List.mem_cons.mp he with rfl | he
        · exact ha
        · exact hm' e he
      · intro e he
        rcases List.mem_cons.mp he with rfl | he
        · exact hy
        · exact ih hm' e he

/-- One byte written keeps the canonical form. -/
theorem Memory.wf_put {m : Memory} (a : Nat) (b : Byte) (h : Memory.wf m = true) : Memory.wf (m.put a b) = true := by
  induction m with
  | nil => rfl
  | cons e m ih =>
    obtain ⟨y, c⟩ := e
    have hc := (Memory.wf_cons _ _).mp h
    simp only [Memory.put]
    split
    · rename_i hlt
      refine (Memory.wf_cons _ _).mpr ⟨?_, h⟩
      intro e he
      rcases List.mem_cons.mp he with rfl | he
      · exact hlt
      · exact lt_trans hlt (hc.1 e he)
    · split
      · rename_i heq
        subst a
        exact (Memory.wf_cons _ _).mpr hc
      · rename_i h1 h2
        exact (Memory.wf_cons _ _).mpr ⟨Memory.above_put b hc.1 (by simp only; omega), ih hc.2⟩

/-! ### A transaction's bytes -/

/-- The bytes of a transaction stand at different addresses. -/
theorem byteAddr_inj {addr : Word} {i j : Nat} (hi : i < 2 ^ 32) (hj : j < 2 ^ 32)
    (h : byteAddr addr i = byteAddr addr j) : i = j := by
  simp only [byteAddr, BitVec.toNat_add, BitVec.toNat_ofNat] at h
  have := addr.isLt
  omega

/-- A completed write keeps the canonical form. -/
theorem Memory.wf_writeFrom {m : Memory} (addr : Word) (i : Nat) (bs : List Byte) (h : Memory.wf m = true) :
    Memory.wf (m.writeFrom addr i bs) = true := by
  induction bs generalizing m i with
  | nil => exact h
  | cons b bs ih => exact ih (i + 1) (Memory.wf_put _ b h)

/-- An abandoned write keeps the canonical form, whichever bytes landed. -/
theorem Memory.wf_landFrom {m : Memory} (k : Nat) (addr : Word) (i : Nat) (bs : List Byte) (h : Memory.wf m = true) :
    Memory.wf (Memory.landFrom k m addr i bs) = true := by
  induction bs generalizing m i with
  | nil => exact h
  | cons b bs ih =>
    simp only [Memory.landFrom]
    split
    · exact ih (i + 1) (Memory.wf_put _ b h)
    · exact ih (i + 1) h

/-- A completed write leaves every byte outside it as it was. -/
theorem Memory.read_writeFrom_outside {m : Memory} (addr : Word) (i : Nat) (bs : List Byte) (a : Nat)
    (h : ∀ j, j < bs.length → a ≠ byteAddr addr (i + j)) : (m.writeFrom addr i bs).read a = m.read a := by
  induction bs generalizing m i with
  | nil => rfl
  | cons b bs ih =>
    simp only [Memory.writeFrom]
    rw [ih (i + 1) (fun j hj => by have := h (j + 1) (by simp; omega); rwa [show i + (j + 1) = i + 1 + j by omega] at this)]
    exact Memory.read_put_ne _ b (by simpa using h 0 (by simp))

/-- A completed write puts each of its bytes at its address. -/
theorem Memory.read_writeFrom_inside {m : Memory} (addr : Word) (i : Nat) (bs : List Byte) (j : Nat)
    (hj : j < bs.length) (hb : i + bs.length ≤ 2 ^ 32) :
    (m.writeFrom addr i bs).read (byteAddr addr (i + j)) = some bs[j] := by
  induction bs generalizing m i j with
  | nil => simp at hj
  | cons b bs ih =>
    simp only [List.length_cons] at hj hb
    simp only [Memory.writeFrom]
    match j with
    | 0 =>
      rw [Memory.read_writeFrom_outside]
      · simp
      · intro k hk heq
        have := byteAddr_inj (by omega) (by omega) heq
        omega
    | j + 1 =>
      have := ih (m := m.put (byteAddr addr i) b) (i + 1) j (by omega) (by omega)
      rw [show i + (j + 1) = i + 1 + j by omega]
      simpa using this

/-- An abandoned write leaves every byte outside it as it was. -/
theorem Memory.read_landFrom_outside {m : Memory} (k : Nat) (addr : Word) (i : Nat) (bs : List Byte) (a : Nat)
    (h : ∀ j, j < bs.length → a ≠ byteAddr addr (i + j)) : (Memory.landFrom k m addr i bs).read a = m.read a := by
  induction bs generalizing m i with
  | nil => rfl
  | cons b bs ih =>
    simp only [Memory.landFrom]
    rw [ih (i + 1) (fun j hj => by have := h (j + 1) (by simp; omega); rwa [show i + (j + 1) = i + 1 + j by omega] at this)]
    split
    · exact Memory.read_put_ne _ b (by simpa using h 0 (by simp))
    · rfl

/-! ### Landing and abandoning -/

/-- What a good response does to memory (R179). -/
theorem State.memoryAfter_land (s : State) (tx : Tx) (h : tx.body.data.length ≤ 2 ^ 32) :
    memoryAfter tx s.sysMem (s.land tx).sysMem := by
  obtain ⟨addr, body, role⟩ := tx
  cases body with
  | read k => exact ⟨fun i hi => absurd hi (Nat.not_lt_zero i), fun a _ => rfl⟩
  | write d =>
    refine ⟨fun i hi => ?_, fun a ha => ?_⟩
    · have := Memory.read_writeFrom_inside (m := s.sysMem) addr 0 d i hi (by simpa [TxBody.data] using h)
      rw [Nat.zero_add] at this
      exact this
    · refine Memory.read_writeFrom_outside addr 0 d a fun j hj heq => ha ⟨j, hj, ?_⟩
      simpa using heq

theorem State.memoryCanonical_land (s : State) (tx : Tx) (h : s.memoryCanonical) : (s.land tx).memoryCanonical := by
  obtain ⟨addr, body, role⟩ := tx
  cases body with
  | read k => exact h
  | write d => exact Memory.wf_writeFrom addr 0 d h

/-- An abandonment changes the port, the bytes of the write it abandons, and the count of free values (R178). -/
theorem State.abandonFlight_frame (s : State) :
    s.abandonFlight =
      { s with port := { s.port with flight := none }, sysMem := s.abandonFlight.sysMem,
               freeCount := s.abandonFlight.freeCount } := by
  unfold State.abandonFlight
  split
  · rename_i h
    cases s with | _ a1 a2 a3 a4 a5 a6 a7 a8 a9 port => cases port; simp_all
  · split <;> rfl

theorem State.memoryCanonical_abandonFlight (s : State) (h : s.memoryCanonical) :
    s.abandonFlight.memoryCanonical := by
  unfold State.abandonFlight
  split
  · exact h
  · dsimp only
    split
    · exact Memory.wf_landFrom _ _ 0 _ h
    · exact h

/-- An abandonment leaves every byte outside the transaction as it was (R178). -/
theorem State.abandonFlight_outside (s : State) (f : Flight) (hf : s.port.flight = some f) (a : Nat)
    (ha : ¬ f.tx.touches a) : Memory.read s.abandonFlight.sysMem a = Memory.read s.sysMem a := by
  unfold State.abandonFlight
  rw [hf]
  dsimp only
  split
  · refine Memory.read_landFrom_outside _ f.tx.addr 0 f.tx.body.data a fun j hj heq => ha ⟨j, hj, ?_⟩
    simpa using heq
  · rfl

/-- An abandoned transaction that cannot have reached memory changes no byte and uses no free value (R139). -/
theorem State.abandonFlight_noLand (s : State) (f : Flight) (hf : s.port.flight = some f) (h : f.tx.mayLand = false) :
    s.abandonFlight = { s with port := { s.port with flight := none } } := by
  unfold State.abandonFlight
  rw [hf]
  simp [h]

end Sys2Proof.Machine
end

