-- ==== Sys2Proof/Laws/Ops.lean ====
section
/-! SUPPORT. What each shared operation does, said once: the arithmetic helpers, the arbiters' order, the Burst Store, the
flushes, and the frame of every operation of the closing sequence. -/

namespace Sys2Proof.Machine

open Sys2Proof

/-! ### Arithmetic -/

/-- A note count rises by k and stays at 65,535 (R3). -/
theorem satAdd_eq (c : Half) (k : Nat) : satAdd c k = BitVec.ofNat 16 (min 65535 (c.toNat + k)) := by
  unfold satAdd
  split
  · rw [min_eq_right (by omega)]
  · rw [min_eq_left (by omega)]

/-- The early run rises by one and stays at 15 (R3). -/
theorem earlyRunAfter_eq (k : Nat) (h : k ≤ 15) : earlyRunAfter k = min 15 (k + 1) := by
  unfold earlyRunAfter
  split <;> omega

theorem earlyRunAfter_le (k : Nat) : earlyRunAfter k ≤ 15 := by
  unfold earlyRunAfter
  split <;> omega

/-- The alignment test reads the address as a number. -/
theorem aligned64_iff (v : Word) : aligned64 v = true ↔ v ≠ 0 ∧ v.toNat % 64 = 0 := by
  simp only [aligned64, Bool.and_eq_true, bne_iff_ne, beq_iff_eq]
  constructor
  · rintro ⟨a, b⟩
    refine ⟨a, ?_⟩
    have := congrArg BitVec.toNat b
    simpa using this
  · rintro ⟨a, b⟩
    refine ⟨a, ?_⟩
    apply BitVec.eq_of_toNat_eq
    simpa using b

/-- The margin of an anchoring burst is D (R27). -/
theorem margin_at_anchor (a d p : Word) : a + d + BitVec.ofNat 32 0 * p - a = d := by simp

/-! ### Round-robin -/

/-- Every number stands in the rotation after any other. -/
theorem mem_rotation {n : Nat} (last i : Fin n) : i ∈ Machine.rotation n last := by
  simp [Machine.rotation]
  omega

/-- The rotation goes by rising distance after the last number served. -/
theorem rotation_pairwise {n : Nat} (last : Fin n) (d : Fin n → Nat)
    (up : ∀ a b : Fin n, last < a → a < b → d a < d b) (down : ∀ a b : Fin n, b ≤ last → a < b → d a < d b)
    (wrap : ∀ a b : Fin n, last < a → b ≤ last → d a < d b) :
    (Machine.rotation n last).Pairwise (fun a b => d a < d b) := by
  have sorted : (List.finRange n).Pairwise (fun a b => a < b) := List.pairwise_lt_finRange n
  unfold Machine.rotation
  rw [List.pairwise_append]
  refine ⟨?_, ?_, ?_⟩
  · refine List.Pairwise.imp_of_mem ?_ (sorted.filter _)
    intro a b ha _ hab
    exact up a b (by simpa using (List.mem_filter.mp ha).2) hab
  · refine List.Pairwise.imp_of_mem ?_ (sorted.filter _)
    intro a b _ hb hab
    exact down a b (by simpa using (List.mem_filter.mp hb).2) hab
  · intro a ha b hb
    exact wrap a b (by simpa using (List.mem_filter.mp ha).2) (by simpa using (List.mem_filter.mp hb).2)

/-- The lane's rotation goes by rising distance after the last stream served. -/
theorem rotation_sorted (last : Fin 64) :
    (Machine.rotation 64 last).Pairwise (fun a b => laneDistance last a < laneDistance last b) := by
  apply rotation_pairwise <;> intro a b <;> simp only [laneDistance, Fin.lt_def, Fin.le_def] <;> omega

/-- The Tally Writer's rotation goes by rising distance after the last record written. -/
theorem rotation_sorted_tally (last : Fin 65) :
    (Machine.rotation 65 last).Pairwise (fun a b => tallyDistance last a < tallyDistance last b) := by
  apply rotation_pairwise <;> intro a b <;> simp only [tallyDistance, Fin.lt_def, Fin.le_def] <;> omega

/-- A served stream has the work it is served for. -/
theorem State.laneWork_of_serves {s : State} {n : StreamId} {w : Work} (h : s.laneServes n w) :
    laneWork (s.stream n) (s.page n) = some w := by
  obtain ⟨-, -, h3⟩ := h
  unfold State.laneChoice at h3
  rw [List.findSome?_eq_some_iff] at h3
  obtain ⟨l1, a, l2, -, ha, -⟩ := h3
  simp only [Option.map_eq_some_iff, Prod.mk.injEq] at ha
  obtain ⟨v, hv, rfl, rfl⟩ := ha
  exact hv

/-- A served stream is the lane's turn. -/
theorem State.laneTurn_of_serves {s : State} {n : StreamId} {w : Work} (h : s.laneServes n w) :
    s.laneTurn w = some n := by
  obtain ⟨h1, h2, h3⟩ := h
  simp [State.laneTurn, h1, h2, h3]

/-! ### Events -/

theorem reached_iff (t d : Word) : reached t d = true ↔ (t - d).toNat < 2 ^ 31 := by simp [reached]

/-- A due entry can expire. -/
theorem State.expired_of_due {s : State} {n : StreamId} {k : DeadlineKind} {due : Word} (h : s.expiryDue n k due) :
    s.expired n k = some due := by
  obtain ⟨h1, h2, h3⟩ := h
  simp only [State.expired, h1, h2, (reached_iff _ _).2 h3, if_true]

/-- An entry that is not due does not expire (R43, R47, R51). -/
theorem State.expired_eq_none {s : State} {n : StreamId} {k : DeadlineKind}
    (h : s.global.working = false ∨ s.deadline n k = none
      ∨ ∃ d, s.deadline n k = some d ∧ 2 ^ 31 ≤ (s.time.tick - d).toNat) : s.expired n k = none := by
  unfold State.expired
  obtain h | h | ⟨d, h, hd⟩ := h
  · simp [h]
  · simp [h]
  · simp [h, mt (reached_iff _ _).1 (Nat.not_lt.2 hd)]

/-- A timer that is not armed or not due does not expire (R43, R52, R53). -/
theorem Timer.expired_eq_false {t : Timer} {tick : Word} (h : t.armed = false ∨ 2 ^ 31 ≤ (tick - t.due).toNat) :
    t.expired tick = false := by
  unfold Timer.expired
  obtain h | h := h
  · simp [h]
  · simp [mt (reached_iff _ _).1 (Nat.not_lt.2 h)]

/-- The transaction in flight of a working part. -/
theorem State.inFlight_of_flying {s : State} {tx : Tx} (h : s.flying tx) : s.inFlight = some tx := by
  obtain ⟨hw, k, hf⟩ := h
  simp [State.inFlight, hw, hf]

/-- A response leaves what `written` says. -/
theorem State.written_land (s : State) (tx : Tx) (h : tx.body.data.length ≤ 64) : s.written tx (s.land tx) :=
  ⟨rfl, State.memoryAfter_land s tx (by omega)⟩

/-! ### The Deadline Queue -/

theorem removeDeadline_idem (q : List Deadline) (n : StreamId) (k : DeadlineKind) :
    removeDeadline (removeDeadline q n k) n k = removeDeadline q n k := by
  simp [removeDeadline, List.filter_filter]

theorem State.cancel_cancel (s : State) (n : StreamId) (k : DeadlineKind) :
    (s.cancel n k).cancel n k = s.cancel n k := by
  simp only [State.cancel, State.setDeadlines, removeDeadline_idem]

/-! ### Updates that commute with a raised cause -/

theorem State.raiseIf_setStream (s : State) (c : Bool) (b : BitVec 7) (n : StreamId) (st : Stream) :
    (s.raiseIf c b).setStream n st = (s.setStream n st).raiseIf c b := by cases c <;> rfl

theorem State.raiseIf_cancel (s : State) (c : Bool) (b : BitVec 7) (n : StreamId) (k : DeadlineKind) :
    (s.raiseIf c b).cancel n k = (s.cancel n k).raiseIf c b := by cases c <;> rfl

theorem State.raiseIf_arm (s : State) (c : Bool) (b : BitVec 7) (n : StreamId) (k : DeadlineKind) (d : Word) :
    (s.raiseIf c b).arm n k d = (s.arm n k d).raiseIf c b := by cases c <;> rfl

theorem State.raiseIf_join (s : State) (c : Bool) (b : BitVec 7) (i : Fin 65) :
    (s.raiseIf c b).join i = (s.join i).raiseIf c b := by cases c <;> rfl

theorem State.raiseIf_filled (s : State) (c : Bool) (b : BitVec 7) (i : BufferId) (p : List BufferId) (x : List Half) :
    (s.raiseIf c b).filled i p x = (s.filled i p x).raiseIf c b := by cases c <;> rfl

/-! ### The Burst Store and the flushes -/

/-- A claim takes the first buffer of the pool and fills it; from an empty pool there is none (R16, R18). -/
theorem State.claim_eq (s : State) (samples : List Half) :
    s.claim samples = match s.store.pool with
      | [] => none
      | b :: rest => some (b, s.filled b rest samples) := rfl

/-- The flushed counter rises by k, and the changed flag is set unless k is 0 (R8). -/
theorem Stream.countFlushed_eq (k : Nat) (st : Stream) :
    st.countFlushed k = { st with
      counters := { st.counters with flushed := st.counters.flushed + BitVec.ofNat 32 k }
      changed := st.changed || decide (k ≠ 0) } := by
  unfold Stream.countFlushed
  split
  · rename_i h
    subst h
    cases st
    simp
  · rename_i h
    simp [Stream.tally, h]

/-- A window flush empties the slots, counts their bursts flushed and gives their buffers back (R8). -/
theorem State.flushWindow_eq (s : State) (n : StreamId) :
    let st := s.stream n
    let gone := st.window.filterMap id
    s.flushWindow n =
      ({ s with store := { s.store with pool := gone.map (fun b => b.buffer) ++ s.store.pool } } : State).setStream n
        { st with
          window := st.window.map (fun _ => none)
          counters := { st.counters with flushed := st.counters.flushed + BitVec.ofNat 32 gone.length }
          changed := st.changed || decide (gone.length ≠ 0) } := by
  intro st gone
  unfold State.flushWindow
  simp only [Stream.countFlushed_eq, State.modStream, heldBursts]
  rfl

/-- The lane is on a record operation of the stream. -/
theorem State.recordInFlight_iff (s : State) (n : StreamId) :
    s.recordInFlight n = true ↔ ∃ t, s.lane.op = some (.record n t) := by
  unfold State.recordInFlight
  split
  · rename_i m t ht
    rw [ht]
    constructor
    · intro h
      exact ⟨t, by rw [eq_of_beq h]⟩
    · rintro ⟨t', h⟩
      cases h
      exact beq_self_eq_true n
  · rename_i m ht
    rw [ht]
    simp
  · rename_i m ht
    rw [ht]
    simp
  · rename_i ht
    rw [ht]
    simp

/-- A queue flush keeps the record in flight (R8). -/
theorem State.flushQueue_eq (s : State) (n : StreamId) :
    let st := s.stream n
    let stay := if s.recordInFlight n then 1 else 0
    let gone := st.queue.drop stay
    s.flushQueue n =
      ({ s with store := { s.store with
          pool := gone.flatMap (fun r => r.content.buffers) ++ s.store.pool } } : State).setStream n
        { st with
          queue := st.queue.take stay
          counters := { st.counters with flushed := st.counters.flushed + BitVec.ofNat 32 gone.length }
          changed := st.changed || decide (gone.length ≠ 0) } := by
  intro st stay gone
  unfold State.flushQueue
  simp only [Stream.countFlushed_eq, State.modStream]
  rfl

/-- A change of state of a stream just set: its record joins the tally-pending set unless the state stands (R5). -/
theorem State.changeState_setStream (s : State) (n : StreamId) (st : Stream) (target : StreamState) :
    (s.setStream n st).changeState n target =
      if st.state = target then s.setStream n st
      else (s.setStream n { st with state := target, changed := true }).join n.castSucc := by
  simp only [State.changeState, State.stream_setStream_self, State.modStream, State.setStream_setStream, streamIndex]

/-- Both flushes of an immediate close, and the cancels: but for its state the stream is as `flushedOut` says (R8, R11). -/
theorem State.flushes_eq (s : State) (n : StreamId) :
    let st := s.stream n
    let stay := if s.recordInFlight n then 1 else 0
    let bursts := st.window.filterMap id
    let records := st.queue.drop stay
    let back := records.flatMap (fun r => r.content.buffers) ++ bursts.map (fun b => b.buffer)
    (((s.flushWindow n).flushQueue n).cancel n .head).cancel n .silence =
      ((({ s with store := { s.store with pool := back ++ s.store.pool } } : State).cancel n .head).cancel n
        .silence).setStream n { st with
          window := st.window.map (fun _ => none)
          queue := st.queue.take stay
          counters := { st.counters with
            flushed := st.counters.flushed + BitVec.ofNat 32 bursts.length + BitVec.ofNat 32 records.length }
          changed := st.changed || !bursts.isEmpty || !records.isEmpty } := by
  intro st stay bursts records back
  have e : ∀ (α : Type) (l : List α), (!l.isEmpty) = decide (l.length ≠ 0) := fun α l => by cases l <;> simp
  have h := State.flushQueue_eq (s.flushWindow n) n
  have hr : (s.flushWindow n).recordInFlight n = s.recordInFlight n := rfl
  dsimp only at h
  rw [hr, State.flushWindow_eq] at h
  rw [State.flushWindow_eq, h, e, e]
  simp only [State.stream_setStream_self]
  simp only [State.cancel, State.setDeadlines, State.setStream, Vector.set_set, st, bursts, records, back, stay,
    List.append_assoc]

/-- An immediate close is the flush with the change to DRAINING, and then the closing sequence (R11). -/
theorem State.closeNow_eq (s : State) (n : StreamId) (r : CloseReason) :
    s.closeNow n r = (s.flushedOut n).beginClosing n r := by
  unfold State.closeNow
  rw [State.flushes_eq, State.changeState_setStream]
  unfold State.flushedOut State.stateChanged
  dsimp only
  split
  · rename_i h
    rw [h]
    simp only [bne_self_eq_false, Bool.or_false]
  · rename_i h
    have : ((s.stream n).state != .draining) = true := by simpa using h
    rw [this]
    simp only [Bool.or_true, Bool.true_or]
/-- A supply is replaced; a change of its length sets the stream's changed flag (R162). -/
theorem State.setSupply_eq (s : State) (n : StreamId) (l : List Word) :
    s.setSupply n l =
      (s.setPage n { s.page n with supply := l }).setStream n
        { s.stream n with changed := (s.stream n).changed || (s.page n).supply.length != l.length } := rfl

/-- A page is opened from the head of the supply (R83). -/
theorem State.openPage_eq (s : State) (n : StreamId) (a : Word) (more : List Word) (openTick : Word)
    (hc : (s.page n).current = none) (hs : (s.page n).supply = a :: more) :
    s.openPage n openTick =
      (s.setPage n { s.page n with supply := more, current := some (openedPage a openTick) }).setStream n
        { s.stream n with changed := true } := by
  unfold State.openPage
  rw [hc, hs]
  dsimp only
  rw [State.setSupply_eq, hs]
  have : ((a :: more).length != more.length) = true := by simp
  rw [this, Bool.or_true]
  unfold State.modPage
  simp only [State.page_setStream, State.page_setPage_self]
  simp only [State.setPage, State.setStream, Vector.set_set]

/-- A burst placed in slot o (R25, R31, R34). -/
theorem State.placeBurst_eq (s : State) (n : StreamId) (f : Frame) (l : LinkId) (b : BufferId) (pool : List BufferId)
    (hp : s.store.pool = b :: pool) (o : Nat) :
    s.placeBurst n o f l = some ((s.filled b pool f.samples).setStream n
      (Stream.noteMargin ((s.stream n).margin o s.time.tick)
        { s.stream n with
          window := (s.stream n).window.set o (some (slotBurst b f l s.time.tick)), earlyRun := 0 })) := by
  simp only [State.placeBurst, State.claim, hp]
  rfl

/-- SILENCE is armed after the stream's silence period (R35). -/
theorem State.armSilence_eq (s : State) (n : StreamId) (t : Word) :
    s.armSilence n t = s.silenceAfter n (s.stream n).config.silence t := by
  simp [State.armSilence, State.silenceAfter, thousands]

/-! ### The closing sequence -/

/-- What no operation of the closing sequence changes: the registers, the lane, the port, the links, the Acceptance Unit,
memory and the command queue. -/
structure State.ClosingFrame (s t : State) : Prop where
  run : t.run = s.run
  global : t.global = s.global
  faultReason : t.faultReason = s.faultReason
  faultAddr : t.faultAddr = s.faultAddr
  root : t.root = s.root
  cause : t.cause = s.cause
  enable : t.enable = s.enable
  resetHeld : t.resetHeld = s.resetHeld
  tick : t.time.tick = s.time.tick
  port : t.port = s.port
  lane : t.lane = s.lane
  rxA : t.rxA = s.rxA
  rxB : t.rxB = s.rxB
  acceptance : t.acceptance = s.acceptance
  sysMem : t.sysMem = s.sysMem
  freeCount : t.freeCount = s.freeCount
  pending : t.pending = s.pending

theorem State.ClosingFrame.refl (s : State) : State.ClosingFrame s s := by constructor <;> rfl

theorem State.ClosingFrame.trans {s t u : State} (h : State.ClosingFrame s t) (k : State.ClosingFrame t u) :
    State.ClosingFrame s u where
  run := k.run.trans h.run
  global := k.global.trans h.global
  faultReason := k.faultReason.trans h.faultReason
  faultAddr := k.faultAddr.trans h.faultAddr
  root := k.root.trans h.root
  cause := k.cause.trans h.cause
  enable := k.enable.trans h.enable
  resetHeld := k.resetHeld.trans h.resetHeld
  tick := k.tick.trans h.tick
  port := k.port.trans h.port
  lane := k.lane.trans h.lane
  rxA := k.rxA.trans h.rxA
  rxB := k.rxB.trans h.rxB
  acceptance := k.acceptance.trans h.acceptance
  sysMem := k.sysMem.trans h.sysMem
  freeCount := k.freeCount.trans h.freeCount
  pending := k.pending.trans h.pending

theorem State.closingFrame_modStream (s : State) (n : StreamId) (f : Stream → Stream) :
    State.ClosingFrame s (s.modStream n f) := by constructor <;> rfl

theorem State.closingFrame_modPage (s : State) (n : StreamId) (f : PageState → PageState) :
    State.ClosingFrame s (s.modPage n f) := by constructor <;> rfl

theorem State.closingFrame_cancel (s : State) (n : StreamId) (k : DeadlineKind) :
    State.ClosingFrame s (s.cancel n k) := by constructor <;> rfl

theorem State.closingFrame_setWalker (s : State) (w : Walker) : State.ClosingFrame s (s.setWalker w) := by
  constructor <;> rfl

theorem State.closingFrame_freeBuffers (s : State) (bs : List BufferId) : State.ClosingFrame s (s.freeBuffers bs) := by
  constructor <;> rfl

theorem State.closingFrame_changeState (s : State) (n : StreamId) (target : StreamState) :
    State.ClosingFrame s (s.changeState n target) := by constructor <;> simp

theorem State.closingFrame_flushWindow (s : State) (n : StreamId) : State.ClosingFrame s (s.flushWindow n) :=
  (s.closingFrame_modStream n _).trans (State.closingFrame_freeBuffers _ _)

theorem State.closingFrame_flushQueue (s : State) (n : StreamId) : State.ClosingFrame s (s.flushQueue n) :=
  (s.closingFrame_modStream n _).trans (State.closingFrame_freeBuffers _ _)

theorem State.closingFrame_beginPageClose (s : State) (n : StreamId) (r : CloseReason) (w i : Bool) :
    State.ClosingFrame s (s.beginPageClose n r w i) := by
  unfold State.beginPageClose
  split
  · exact (s.closingFrame_modPage n _).trans (State.closingFrame_cancel _ _ _)
  · exact State.ClosingFrame.refl s

theorem State.closingFrame_closeStep4 (s : State) (n : StreamId) (k : Nat) :
    State.ClosingFrame s (s.closeStep4 n k) := by
  unfold State.closeStep4
  have h0 : State.ClosingFrame s { s with store := { s.store with
      reserved := s.store.reserved - ((s.stream n).config.w + (s.stream n).config.q) } } := by constructor <;> rfl
  exact ((h0.trans (State.closingFrame_modStream _ n _)).trans (State.closingFrame_changeState _ n _)).trans
    (State.closingFrame_setWalker _ _)

theorem State.closingFrame_closeStep3 (s : State) (n : StreamId) : State.ClosingFrame s (s.closeStep3 n) := by
  unfold State.closeStep3
  split
  · exact s.closingFrame_closeStep4 n 0
  · exact s.closingFrame_modStream n _

theorem State.closingFrame_closeStep2 (s : State) (n : StreamId) (r : CloseReason) :
    State.ClosingFrame s (s.closeStep2 n r) := by
  unfold State.closeStep2
  dsimp only
  split
  · exact (s.closingFrame_modPage n _).trans (State.closingFrame_modStream _ n _)
  · exact (s.closingFrame_beginPageClose n r _ _).trans (State.closingFrame_modStream _ n _)
  · exact (s.closingFrame_modStream n _).trans (State.closingFrame_closeStep3 _ n)

theorem State.closingFrame_beginClosing (s : State) (n : StreamId) (r : CloseReason) :
    State.ClosingFrame s (s.beginClosing n r) := by
  unfold State.beginClosing
  dsimp only
  split
  · exact s.closingFrame_modStream n _
  · exact (s.closingFrame_modStream n _).trans (State.closingFrame_closeStep2 _ n r)

theorem State.closingFrame_testDrained (s : State) (n : StreamId) : State.ClosingFrame s (s.testDrained n) := by
  unfold State.testDrained
  dsimp only
  split
  · exact s.closingFrame_beginClosing n .close
  · exact State.ClosingFrame.refl s

theorem State.closingFrame_laneDone (s : State) (n : StreamId) : State.ClosingFrame s (s.laneDone n) := by
  unfold State.laneDone
  split
  · split
    · exact s.closingFrame_closeStep2 n _
    all_goals exact State.ClosingFrame.refl s
  · exact State.ClosingFrame.refl s

theorem State.closingFrame_closeNow (s : State) (n : StreamId) (r : CloseReason) :
    State.ClosingFrame s (s.closeNow n r) :=
  (((((s.closingFrame_flushWindow n).trans (State.closingFrame_flushQueue _ n)).trans
    (State.closingFrame_cancel _ n _)).trans (State.closingFrame_cancel _ n _)).trans
      (State.closingFrame_changeState _ n _)).trans (State.closingFrame_beginClosing _ n r)

theorem State.closingFrame_stopStream (s : State) (n : StreamId) : State.ClosingFrame s (s.stopStream n) := by
  unfold State.stopStream
  split
  · exact s.closingFrame_closeNow n .stop
  · exact State.ClosingFrame.refl s

/-- A CLOSED stream or one in its closing sequence does not begin another (R10). -/
theorem State.testDrained_of_closing (s : State) (n : StreamId)
    (h : (s.stream n).closing ≠ none ∨ (s.stream n).state ≠ .draining) : s.testDrained n = s := by
  unfold State.testDrained
  dsimp only
  rw [if_neg]
  rintro ⟨a, b, -⟩
  rcases h with h | h
  · exact h b
  · exact h a

/-! ### Reports of a close (R14, R135) -/

theorem Walker.completeDrain_none (w : Walker) (n : StreamId) (r : Result)
    (h : ∀ x ∈ w.held, ¬ (x.stream = n ∧ x.settled = false)) : w.completeDrain n r = w := by
  have : w.held.find? (HeldDrain.openFor n) = none := by
    rw [List.find?_eq_none]
    intro x hx
    have := h x hx
    simpa [HeldDrain.openFor] using this
  simp only [Walker.completeDrain, this]

/-- The one unsettled drain of a stream is settled and its outcome goes on the outcome list. -/
theorem Walker.completeDrain_some (w : Walker) (n : StreamId) (r : Result) (pre post : List HeldDrain) (h : HeldDrain)
    (hh : w.held = pre ++ h :: post) (h1 : h.stream = n) (h2 : h.settled = false)
    (h3 : ∀ x ∈ pre ++ post, ¬ (x.stream = n ∧ x.settled = false)) :
    w.completeDrain n r = { w with
      held := pre ++ { h with settled := true } :: post
      outcomes := w.outcomes ++ [{ ref := h.ref, result := r, source := .drain n }] } := by
  have hno : ∀ x ∈ pre ++ post, HeldDrain.openFor n x = false := by
    intro x hx
    have := h3 x hx
    rw [Bool.eq_false_iff]
    simpa [HeldDrain.openFor] using this
  have hy : HeldDrain.openFor n h = true := by simp [HeldDrain.openFor, h1, h2]
  have hfind : w.held.find? (HeldDrain.openFor n) = some h := by
    rw [hh, List.find?_append]
    have : pre.find? (HeldDrain.openFor n) = none := by
      rw [List.find?_eq_none]
      intro x hx
      rw [hno x (by simp [hx])]
      simp
    simp [this, hy]
  have hsame : ∀ l : List HeldDrain, (∀ x ∈ l, HeldDrain.openFor n x = false) →
      l.map (fun x => if x.openFor n then { x with settled := true } else x) = l := by
    intro l hl
    conv_rhs => rw [← List.map_id l]
    apply List.map_congr_left
    intro x hx
    rw [hl x hx]
    simp
  simp only [Walker.completeDrain, hfind]
  congr 1
  rw [hh, List.map_append, List.map_cons, if_pos hy, hsame pre (fun x hx => hno x (by simp [hx])),
    hsame post (fun x hx => hno x (by simp [hx]))]

theorem Walker.closeWaiting_none (w : Walker) (n : StreamId) (h : ∀ ref, w.activity ≠ .waitClose ref n) :
    w.closeWaiting n = none := by
  unfold Walker.closeWaiting
  split
  · rename_i ref m hm
    rw [if_neg]
    rintro rfl
    exact h ref hm
  · rfl

theorem Walker.closeWaiting_some (w : Walker) (n : StreamId) (ref : RecordRef) (h : w.activity = .waitClose ref n) :
    w.closeWaiting n = some ref := by
  unfold Walker.closeWaiting
  rw [h]
  simp

end Sys2Proof.Machine
end

