-- ==== Sys2Proof/Laws/Stop.lean ====
section
/-! SUPPORT. The stop sequence and the links: where it does nothing, and what a link's change of state leaves alone. -/

namespace Sys2Proof.Machine

open Sys2Proof

/-- Outside STOPPING the stop sequence does nothing. -/
theorem State.advanceStop_of_not_stopping (s : State) (h : ∀ p, s.global ≠ .stopping p) : s.advanceStop = s := by
  simp [State.advanceStop, State.stop1, State.stop2, State.stop3, State.stop4, State.stop5, h]

theorem State.advanceStop_of_active (s : State) (h : s.global = .active) : s.advanceStop = s :=
  s.advanceStop_of_not_stopping (by intro p; rw [h]; simp)

/-! ### One step of the stop sequence

A step that is not the part's does nothing; one whose work is done enters the next. -/

theorem State.stop1_of_ne (s : State) (h : s.global ≠ .stopping .order) : s.stop1 = s := by simp [State.stop1, h]
theorem State.stop2_of_ne (s : State) (h : s.global ≠ .stopping .held) : s.stop2 = s := by simp [State.stop2, h]
theorem State.stop3_of_ne (s : State) (h : s.global ≠ .stopping .links) : s.stop3 = s := by simp [State.stop3, h]
theorem State.stop4_of_ne (s : State) (h : s.global ≠ .stopping .streams) : s.stop4 = s := by simp [State.stop4, h]
theorem State.stop5_of_ne (s : State) (h : s.global ≠ .stopping .tallies) : s.stop5 = s := by simp [State.stop5, h]

theorem State.stop1_of_idle (s : State) (h : s.global = .stopping .order) (i : s.walker.activity = .idle) :
    s.stop1 = { s with global := .stopping .held } := by simp [State.stop1, h, i, Activity.isIdle]

theorem State.stop2_of_settled (s : State) (h : s.global = .stopping .held) (w : s.walker.settledAll = true) :
    s.stop2 = (({ s with global := .stopping .links, walker := { s.walker with state := .parked } } : State).linkOff
      .a).linkOff .b := by simp [State.stop2, h, w]

theorem State.stop4_of_closed (s : State) (h : s.global = .stopping .streams) (c : s.allClosed = true) :
    s.stop4 = { s.joinChanged with global := .stopping .tallies } := by simp [State.stop4, h, c]

/-- Step 5's first act on a stream's record: it joins the set if it changed and is no member. -/
theorem State.joinChanged_stream (s : State) (n : StreamId) :
    s.joinChanged.tally.pending[n.castSucc] =
      if (s.stream n).changed && s.tally.pending[n.castSucc].isNone then some { zero := false, order := false }
      else s.tally.pending[n.castSucc] := by
  have lt : (n.castSucc).val < 64 := n.isLt
  simp only [State.joinChanged, Fin.getElem_fin, Vector.getElem_ofFn, State.recordChanged, lt, dif_pos]
  show (if (s.stream n).changed = true then joined s.tally.pending[n.val] else s.tally.pending[n.val]) = _
  cases (s.stream n).changed <;> cases h : s.tally.pending[n.val] <;> simp [joined, h]

/-- Step 5's first act on the device record. -/
theorem State.joinChanged_device (s : State) :
    s.joinChanged.tally.pending[(64 : Fin 65)] =
      if s.tally.deviceChanged && s.tally.pending[(64 : Fin 65)].isNone then some { zero := false, order := false }
      else s.tally.pending[(64 : Fin 65)] := by
  have lt : ¬ ((64 : Fin 65).val < 64) := by decide
  simp only [State.joinChanged, Fin.getElem_fin, Vector.getElem_ofFn, State.recordChanged, lt, dif_neg, not_false_eq_true]
  show (if s.tally.deviceChanged = true then joined s.tally.pending[64] else s.tally.pending[64]) = _
  cases s.tally.deviceChanged <;> cases k : s.tally.pending[64] <;> simp [joined, k]

/-- Step 1 with its work done is passed in the same event. -/
theorem State.advanceStop_of_idle (s : State) (h : s.global = .stopping .order) (i : s.walker.activity = .idle) :
    s.advanceStop = ({ s with global := .stopping .held } : State).advanceStop := by
  unfold State.advanceStop
  rw [s.stop1_of_idle h i, State.stop1_of_ne]
  intro c
  cases c

/-- Step 4 closes an open stream at once with reason STOP, and leaves a CLOSED or closing one as it is. -/
theorem State.stopStream_eq (s : State) (n : StreamId) :
    s.stopStream n =
      if (s.stream n).state ≠ .closed ∧ (s.stream n).closing = none then (s.flushedOut n).beginClosing n .stop else s := by
  unfold State.stopStream
  split
  · exact s.closeNow_eq n .stop
  · rfl

/-! ### A link's changes of state -/

/-- What no operation of one receiver changes: everything but that receiver, the device record's changed flag and the
causes. -/
structure State.LinkFrame (l : LinkId) (s t : State) : Prop where
  run : t.run = s.run
  global : t.global = s.global
  faultReason : t.faultReason = s.faultReason
  faultAddr : t.faultAddr = s.faultAddr
  root : t.root = s.root
  enable : t.enable = s.enable
  resetHeld : t.resetHeld = s.resetHeld
  time : t.time = s.time
  port : t.port = s.port
  streams : t.streams = s.streams
  store : t.store = s.store
  pages : t.pages = s.pages
  lane : t.lane = s.lane
  acceptance : t.acceptance = s.acceptance
  walker : t.walker = s.walker
  sysMem : t.sysMem = s.sysMem
  freeCount : t.freeCount = s.freeCount
  pending : t.pending = s.pending
  other : ∀ k, k ≠ l → t.rx k = s.rx k

theorem State.LinkFrame.refl (l : LinkId) (s : State) : State.LinkFrame l s s := by
  constructor <;> first | rfl | (intro k _; rfl)

theorem State.LinkFrame.trans {l : LinkId} {s t u : State} (h : State.LinkFrame l s t) (k : State.LinkFrame l t u) :
    State.LinkFrame l s u where
  run := k.run.trans h.run
  global := k.global.trans h.global
  faultReason := k.faultReason.trans h.faultReason
  faultAddr := k.faultAddr.trans h.faultAddr
  root := k.root.trans h.root
  enable := k.enable.trans h.enable
  resetHeld := k.resetHeld.trans h.resetHeld
  time := k.time.trans h.time
  port := k.port.trans h.port
  streams := k.streams.trans h.streams
  store := k.store.trans h.store
  pages := k.pages.trans h.pages
  lane := k.lane.trans h.lane
  acceptance := k.acceptance.trans h.acceptance
  walker := k.walker.trans h.walker
  sysMem := k.sysMem.trans h.sysMem
  freeCount := k.freeCount.trans h.freeCount
  pending := k.pending.trans h.pending
  other := fun x hx => (k.other x hx).trans (h.other x hx)

theorem State.linkFrame_setRx (s : State) (l : LinkId) (r : Receiver) : State.LinkFrame l s (s.setRx l r) := by
  constructor <;> first | exact fun k hk => State.rx_setRx_ne s l k r hk | simp

theorem State.linkFrame_markDevice (s : State) (l : LinkId) : State.LinkFrame l s s.markDevice := by
  constructor <;> first | rfl | (intro k _; cases k <;> rfl)

theorem State.linkFrame_raise (s : State) (l : LinkId) (b : BitVec 7) : State.LinkFrame l s (s.raise b) := by
  constructor <;> first | rfl | (intro k _; cases k <;> rfl)

theorem State.linkFrame_countLink (s : State) (l : LinkId) (f : LinkCounters → LinkCounters) :
    State.LinkFrame l s (s.countLink l f) := (s.linkFrame_setRx l _).trans (State.linkFrame_markDevice _ l)

theorem State.linkFrame_formatError (s : State) (l : LinkId) : State.LinkFrame l s (s.formatError l) :=
  s.linkFrame_countLink l _

theorem State.linkFrame_enterHunt (s : State) (l : LinkId) : State.LinkFrame l s (s.enterHunt l) :=
  (s.linkFrame_setRx l _).trans (State.linkFrame_markDevice _ l)

theorem State.linkFrame_enterUp (s : State) (l : LinkId) : State.LinkFrame l s (s.enterUp l) :=
  ((s.linkFrame_setRx l _).trans (State.linkFrame_markDevice _ l)).trans (State.linkFrame_raise _ l _)

theorem State.linkFrame_leaveUp (s : State) (l : LinkId) : State.LinkFrame l s (s.leaveUp l) := by
  unfold State.leaveUp
  dsimp only
  refine State.LinkFrame.trans ?_ (State.linkFrame_raise _ l _)
  refine State.LinkFrame.trans ?_ (State.linkFrame_markDevice _ l)
  refine State.LinkFrame.trans ?_ (State.linkFrame_setRx _ l _)
  split
  · exact s.linkFrame_formatError l
  · exact State.LinkFrame.refl l s

/-- What leaving UP does: the partial frame counted and gone, the receiver in HUNT, LINK raised (R101). -/
theorem State.leaveUp_eq (s : State) (l : LinkId) :
    s.leaveUp l = ((s.setRx l { (s.rx l).outside with
      state := .hunt, idleRun := 0, violationRun := 0
      counters := { (s.rx l).counters with
        formatErrors := (s.rx l).counters.formatErrors + if (s.rx l).assembly = .inFrame then 1 else 0 } }).markDevice).raise
          causeLink := by
  unfold State.leaveUp
  split <;> cases l <;> simp_all [State.formatError, State.countLink, State.rx, State.setRx, State.markDevice, Receiver.outside]

theorem State.linkFrame_linkOff (s : State) (l : LinkId) : State.LinkFrame l s (s.linkOff l) := by
  unfold State.linkOff
  split
  · exact State.LinkFrame.refl l s
  all_goals
    exact ((s.linkFrame_setRx l _).trans (State.linkFrame_markDevice _ l)).trans (State.linkFrame_raise _ l _)

/-- Step 2 with its work done is passed in the same event. -/
theorem State.advanceStop_of_settled (s : State) (h : s.global = .stopping .held) (w : s.walker.settledAll = true) :
    s.advanceStop = ((({ s with
        global := .stopping .links, walker := { s.walker with state := .parked } } : State).linkOff .a).linkOff
          .b).advanceStop := by
  have g : ((({ s with global := .stopping .links, walker := { s.walker with state := .parked } } : State).linkOff
      .a).linkOff .b).global = .stopping .links :=
    (State.linkFrame_linkOff _ .b).global.trans (State.linkFrame_linkOff _ .a).global
  unfold State.advanceStop
  rw [s.stop1_of_ne (by rw [h]; intro c; cases c), s.stop2_of_settled h w,
    State.stop1_of_ne _ (by rw [g]; intro c; cases c), State.stop2_of_ne _ (by rw [g]; intro c; cases c)]

/-- A link that is OFF stays as it is. -/
theorem State.linkOff_of_off (s : State) (l : LinkId) (h : (s.rx l).state = .off) : s.linkOff l = s := by
  simp [State.linkOff, h]

/-- A link that is on goes OFF: its receiver is turned off, the device record changed, LINK raised. -/
theorem State.linkOff_of_on (s : State) (l : LinkId) (h : (s.rx l).state ≠ .off) :
    s.linkOff l = (s.setRx l (s.rx l).turnedOff).markDevice.raise causeLink := by
  unfold State.linkOff
  split
  · exact absurd ‹_› h
  all_goals rfl

theorem State.linkFrame_violation (s : State) (l : LinkId) : State.LinkFrame l s (s.violation l) := by
  unfold State.violation
  dsimp only
  split
  · exact s.linkFrame_leaveUp l
  · exact s.linkFrame_setRx l _

theorem State.linkFrame_appendByte (s : State) (l : LinkId) (b : Byte) : State.LinkFrame l s (s.appendByte l b) := by
  unfold State.appendByte
  split
  · exact s.linkFrame_setRx l _
  · exact (s.linkFrame_formatError l).trans (State.linkFrame_setRx _ l _)

theorem State.linkFrame_stageFrame (s : State) (l : LinkId) (f : Frame) : State.LinkFrame l s (s.stageFrame l f) := by
  unfold State.stageFrame
  split
  · exact (s.linkFrame_setRx l _).trans (State.linkFrame_countLink _ l _)
  · exact s.linkFrame_countLink l _

theorem State.linkFrame_endFrame (s : State) (l : LinkId) : State.LinkFrame l s (s.endFrame l) := by
  unfold State.endFrame
  dsimp only
  refine State.LinkFrame.trans (t := s.frameOutside l) (s.linkFrame_setRx l _) ?_
  split
  · exact State.linkFrame_formatError _ l
  · split
    · exact State.linkFrame_countLink _ l _
    · exact State.linkFrame_stageFrame _ l _

theorem State.linkFrame_lineLoss (s : State) (l : LinkId) : State.LinkFrame l s (s.lineLoss l) := by
  unfold State.lineLoss
  split
  · split
    · exact State.LinkFrame.refl l s
    · exact s.linkFrame_setRx l _
    · exact (s.linkFrame_setRx l _).trans (State.linkFrame_leaveUp _ l)
  · exact State.LinkFrame.refl l s

theorem State.linkFrame_countLine (s : State) (l : LinkId) : State.LinkFrame l s (s.countLine l) := by
  unfold State.countLine
  split
  · split
    · exact s.linkFrame_setRx l _
    · split
      · exact s.linkFrame_lineLoss l
      · exact s.linkFrame_setRx l _
  · exact State.LinkFrame.refl l s

/-- A symbol changes nothing outside its receiver, the device record's changed flag and the causes, if its two effects do
not. -/
theorem State.linkFrame_symbol (s : State) (l : LinkId) (inHunt inUp : State → State)
    (h : ∀ u, State.LinkFrame l u (inHunt u)) (k : ∀ u, State.LinkFrame l u (inUp u)) :
    State.LinkFrame l s (s.symbol l inHunt inUp) := by
  unfold State.symbol
  split
  · split
    · exact State.LinkFrame.refl l s
    · exact (s.linkFrame_setRx l _).trans (h _)
    · exact (s.linkFrame_setRx l _).trans (k _)
  · exact State.LinkFrame.refl l s

end Sys2Proof.Machine
end

