-- ==== Sys2Proof/Laws/Walker.lean ====
section
/-! SUPPORT. The Order Walker's outcome list: when an entry's TAKEN write stands, when an outcome write goes before the
walker's own transactions, and when a read has been issued. -/

namespace Sys2Proof.Machine

open Sys2Proof

theorem State.takenWritten_iff (s : State) (e : OutcomeEntry) : s.walker.takenWritten e = true ↔ s.takenStands e := by
  unfold Walker.takenWritten State.takenStands
  cases hs : e.source with
  | drain n =>
    simp only [List.any_eq_true, Bool.and_eq_true, beq_iff_eq, HeldKind.drain.injEq, reduceCtorEq, false_and, or_false,
      exists_eq_left', and_assoc]
  | barrier =>
    cases hb : s.walker.heldBarrier with
    | none => simp
    | some b => simp

/-- The oldest entry is ready exactly when its record's TAKEN write stands (R136). -/
theorem State.readyOutcome_eq (s : State) (e : OutcomeEntry) :
    s.walker.readyOutcome = some e ↔ (∃ rest, s.walker.outcomes = e :: rest) ∧ s.takenStands e := by
  unfold Walker.readyOutcome
  cases ho : s.walker.outcomes with
  | nil => simp
  | cons x rest =>
    by_cases hx : s.walker.takenWritten x = true
    · simp only [hx, ↓reduceIte, Option.some.injEq]
      constructor
      · rintro rfl
        exact ⟨⟨rest, rfl⟩, (s.takenWritten_iff x).1 hx⟩
      · rintro ⟨⟨r, h⟩, _⟩
        exact (List.cons.inj h).1
    · simp only [hx]
      constructor
      · intro h; simp at h
      · rintro ⟨⟨r, h⟩, ht⟩
        obtain ⟨rfl, -⟩ := List.cons.inj h
        exact absurd ((s.takenWritten_iff x).2 ht) hx

theorem State.outcomeFirst_iff (s : State) :
    s.outcomeFirst ↔ (s.walker.writing.isNone && s.walker.readyOutcome.isNone) = false := by
  unfold State.outcomeFirst
  constructor
  · rintro (h | ⟨e, rest, h, ht⟩)
    · cases hw : s.walker.writing with
      | none => exact absurd hw h
      | some o => rfl
    · rw [(s.readyOutcome_eq e).2 ⟨⟨rest, h⟩, ht⟩]
      simp
  · intro h
    cases hw : s.walker.writing with
    | some o => exact Or.inl (by simp)
    | none =>
      cases hr : s.walker.readyOutcome with
      | none => simp [hw, hr] at h
      | some e =>
        obtain ⟨⟨rest, ho⟩, ht⟩ := (s.readyOutcome_eq e).1 hr
        exact Or.inr ⟨e, rest, ho, ht⟩

/-- The walker's read is out exactly when the stop sequence waits for it (R138, log 24). -/
theorem State.readIssued_iff (s : State) : s.readIssued = true ↔ s.readOut := by
  unfold State.readOut
  rw [s.outcomeFirst_iff]
  unfold State.readIssued
  cases hf : s.port.flight with
  | none => simp
  | some f => simp

/-- With no outcome write to go first, the walker presents its own transaction. -/
theorem State.present_walker_own (s : State) (h : ¬ s.outcomeFirst) :
    s.present .walker =
      match s.walker.issueOwn (s.global == .stopping .held) with
      | some (tx, w) => some (tx, s.setWalker w)
      | none => none := by
  rw [s.outcomeFirst_iff] at h
  simp only [Bool.not_eq_false, Bool.and_eq_true, Option.isNone_iff_eq_none] at h
  have hi : s.walker.issue (s.global == .stopping .held) = s.walker.issueOwn (s.global == .stopping .held) := by
    unfold Walker.issue
    rw [h.1, h.2]
  show (match s.walker.issue (s.global == .stopping .held) with
    | some (tx, w) => some (tx, s.setWalker w)
    | none => none) = _
  rw [hi]

/-- An entry of the outcome list that is ready goes first. -/
theorem State.present_walker_entry (s : State) (e : OutcomeEntry) (rest : List OutcomeEntry)
    (hw : s.walker.writing = none) (ho : s.walker.outcomes = e :: rest) (ht : s.takenStands e) :
    s.present .walker =
      match ({ s.walker with outcomes := rest } : Walker).beginWrite e.ref (.final e.result (some e.source)) with
      | some (tx, w) => some (tx, s.setWalker w)
      | none => none := by
  have hi : s.walker.issue (s.global == .stopping .held)
      = ({ s.walker with outcomes := rest } : Walker).beginWrite e.ref (.final e.result (some e.source)) := by
    unfold Walker.issue
    rw [hw, (s.readyOutcome_eq e).2 ⟨⟨rest, ho⟩, ht⟩]
    simp only [ho, List.tail_cons, hw]
  show (match s.walker.issue (s.global == .stopping .held) with
    | some (tx, w) => some (tx, s.setWalker w)
    | none => none) = _
  rw [hi]

/-- At entry to STOPPING only a read that is not out is dropped (R138). -/
theorem State.dropUnissued_of_out (s : State) (h : s.readOut) : s.dropUnissued = s := by
  unfold State.dropUnissued
  rw [(s.readIssued_iff).2 h]
  cases s.walker.activity <;> rfl

theorem State.dropUnissued_of_order (s : State) (h : s.walker.activity ≠ .linkRead)
    (h' : ∀ a, s.walker.activity ≠ .fetch a) : s.dropUnissued = s := by
  unfold State.dropUnissued
  cases ha : s.walker.activity <;> simp_all

theorem State.dropUnissued_of_read (s : State) (h : s.walker.activity = .linkRead ∨ ∃ a, s.walker.activity = .fetch a)
    (hr : ¬ s.readOut) : s.dropUnissued = { s with walker := { s.walker with activity := .idle } } := by
  have hi : s.readIssued = false := by
    rw [Bool.eq_false_iff]
    exact fun hc => hr ((s.readIssued_iff).1 hc)
  unfold State.dropUnissued
  rcases h with h | ⟨a, h⟩ <;> rw [h] <;> simp [hi]

end Sys2Proof.Machine
end

