-- ==== Sys2Proof/Tests/Slice0.lean ====
section
/-! SUPPORT. The model's own tests: ill-formed commands the check refuses, the manual's worked examples, and for each
statement states and operands that meet its hypotheses, clause by clause. -/

namespace Sys2Proof.Tests

/- One theorem at a time: the witnesses' evaluations side by side take more memory than the check allows. -/
set_option Elab.async false

open Sys2Proof Sys2Proof.Machine

/-! ### Well-formedness -/

theorem test_wf_run_with_nudge_bit : WellFormed (.run 3#32) = false := by decide
theorem test_wf_run_with_srst_bit : WellFormed (.run 4#32) = false := by decide
theorem test_wf_run_plain : WellFormed (.run 0xFFFFFFF9#32) = true := by decide
theorem test_wf_nudge_without_bit : WellFormed (.nudge 1#32) = false := by decide
theorem test_wf_nudge_with_srst_bit : WellFormed (.nudge 6#32) = false := by decide
theorem test_wf_nudge_plain : WellFormed (.nudge 3#32) = true := by decide
theorem test_wf_srst_without_bit : WellFormed (.srst 3#32) = false := by decide
theorem test_wf_srst_plain : WellFormed (.srst 7#32) = true := by decide
theorem test_wf_ignored_word_write_to_control :
    WellFormed (.registerWriteIgnored 0x04#5 .word 1#32) = false := by decide
theorem test_wf_ignored_narrow_write_to_control :
    WellFormed (.registerWriteIgnored 0x05#5 .byte 1#32) = true := by decide
theorem test_wf_ignored_word_write_off_alignment :
    WellFormed (.registerWriteIgnored 0x05#5 .word 1#32) = true ∧ WellFormed (.registerWriteIgnored 0x0E#5 .word 1#32) = true := by
  decide
theorem test_wf_ignored_word_write_to_tick :
    WellFormed (.registerWriteIgnored 0x1C#5 .word 1#32) = true := by decide

/-! ### Small states -/

/-- A configuration: W 4, Q 2, L 8, P 1,000, D 2,500, F 2, K 3, silence 10, age limit 20, MARK SYNC off. -/
def config : StreamConfig :=
  { w := 4, q := 2, l := 8, p := 1000, d := 2500, sizeCode := 0, fillPolicy := .constant, fillWord := 7, f := 2, k := 3,
    silence := 10, ageLimit := 20, options := .off }

/-- ACTIVE, all else as after reset. -/
def active : State := { State.reset with global := .active }

/-- An open stream with an empty window. -/
def openIn (state : StreamState) : Stream :=
  { Stream.reset with state := state, config := config, window := List.replicate 4 none }

/-- A burst in a slot. -/
def burst (sequence : Half) : Burst :=
  { buffer := 9, sequence := sequence, length := 2, originTime := 0, mark := false, test := false, link := .a,
    arrival := 0 }

/-- A released record. -/
def record : QueueRecord :=
  { kind := .data, sequence := 100, releaseTick := 5, count := 2, content := .buffer 9, link := some .a, originTime := 0,
    mark := false, test := false, repeated := false, notes := .clear }

/-- A page with 10 records. -/
def page : Page := { addr := 0x1000, used := 872, count := 10, firstSequence := 1, lastSequence := 10, openTick := 0 }

/-- A frame of two samples. -/
def frame (sequence : Half) (mark test : Bool) : Frame :=
  { tag := 0xAB, sequence := sequence, originTime := 0, mark := mark, test := test, samples := [1, 2] }

/-- ACTIVE with one stream, number 3. -/
def with3 (st : Stream) : State := active.setStream 3 st

/-- ACTIVE with stream 3 and its pages. -/
def with3p (st : Stream) (p : PageState) : State := (with3 st).setPage 3 p

/-- A state whose unit holds a frame of link A for stream 3. -/
def holding (s : State) (f : Frame) : State :=
  { s with acceptance := { s.acceptance with held := some { link := .a, index := 0, frame := f, stream := 3 } } }

/-- A state with a due entry of stream 3. -/
def withDue (s : State) (k : DeadlineKind) (due : Word) : State := s.arm 3 k due

/-- A state with a receiver A. -/
def withA (r : Receiver) : State := { active with rxA := r }

/-- A record reference. -/
def ref : RecordRef := { addr := 0x2000, code := 1, flags := 1, spare := 0 }

/-- A state in which the walker has passed an order on. -/
def requesting (s : State) (o : Order) : State :=
  { s with walker := { s.walker with state := .walking, activity := .request ref o } }

/-- A state with a transaction in flight. -/
def flying (s : State) (tx : Tx) : State := { s with port := { s.port with flight := some { tx := tx, periods := 0 } } }

/-- A one-byte write in a role. -/
def writeTx (role : TxRole) : Tx := { addr := 0x1000, body := .write [1], role := role }

/-- A fetched record from offsets and byte values. -/
def recordOf (l : List (Nat × Nat)) : BitVec 512 :=
  l.foldl (fun r p => r ||| (BitVec.ofNat 512 p.2 <<< (8 * p.1))) 0

/-- A POSTED OPEN STREAM record: stream, W, Q and D as given, L 8, P 1,000. -/
def openRecord (stream w q d : Nat) : BitVec 512 :=
  recordOf [(0, 1), (1, 1), (16, stream), (17, w), (18, q), (19, 8), (28, 1000), (32, d)]

/-- A state in which the walker fetches a record. -/
def fetching : State :=
  { flying active { addr := 0x2000, body := .read 64, role := .orderFetch } with
    walker := { active.walker with state := .walking, activity := .fetch 0x2000 } }

/-! ### A lawful state with work in it -/

/-- Stream 3 RUNNING, with one burst at offset 1 in buffer 0. -/
def busy3 : Stream :=
  { openIn .running with
    headDeadline := 5000, window := [none, some { burst 1 with buffer := 0 }, none, none], anchoredOnce := true }

/-- ACTIVE with that stream, a page with ten records, HEAD, SILENCE and AGE armed, its six buffers reserved. -/
def lawful3 : State :=
  { with3p busy3 { PageState.reset with supply := [0x2000], current := some page } with
    time := { active.time with deadlines :=
      [{ stream := 3, kind := .head, due := 5000 }, { stream := 3, kind := .silence, due := 10000 },
       { stream := 3, kind := .age, due := 20000 }] }
    store := { active.store with pool := (List.finRange 512).drop 1, reserved := 6 } }

theorem lawful3_stream (n : StreamId) : lawful3.stream n = if n = 3 then busy3 else .reset := by
  revert n; decide +kernel

theorem lawful3_page (n : StreamId) :
    lawful3.page n = if n = 3 then { PageState.reset with supply := [0x2000], current := some page } else .reset := by
  revert n; decide +kernel

theorem lawful3_deadline (n : StreamId) (k : DeadlineKind) :
    lawful3.deadline n k = if n = 3 then (match k with
      | .head => some 5000
      | .silence => some 10000
      | .age => some 20000) else none := by
  revert n; cases k <;> decide +kernel

theorem lawful3_windowLaw : lawful3.windowLaw where
  slots := by decide +kernel
  sized := by unfold StreamConfig.sized; decide +kernel
  requestSized := fun _ _ _ h => by cases h
  placed n o b h := by
    rw [lawful3_stream] at h ⊢
    split at h
    · rename_i e
      rw [if_pos e]
      have : o < 4 := (List.getElem?_eq_some_iff.1 h).1
      match o, this with
      | 0, _ => cases h
      | 1, _ => cases h; rfl
      | 2, _ => cases h
      | 3, _ => cases h
    · cases h
  held n b h := by
    rw [lawful3_stream] at h ⊢
    split at h
    · rename_i e; rw [if_pos e]; exact Or.inl rfl
    · cases h

theorem lawful3_closing (n : StreamId) : (lawful3.stream n).closing = none := by revert n; decide +kernel

theorem lawful3_closingLaw : lawful3.closingLaw where
  closed := by decide +kernel
  draining n c h := by rw [lawful3_closing] at h; cases h
  waitLane n c h := by rw [lawful3_closing] at h; cases h
  later n c h := by rw [lawful3_closing] at h; cases h
  returns n c h := by rw [lawful3_closing] at h; cases h
  giveBack _ h := by cases h
  onePage := by decide +kernel

theorem lawful3_deadlineLaw : lawful3.deadlineLaw where
  unique := by unfold State.deadlinesUnique Deadline.sameKey; decide +kernel
  head n due := by
    rw [lawful3_deadline, lawful3_stream]
    split
    · exact ⟨fun h => ⟨Or.inl rfl, (Option.some.inj h).symm⟩, fun h => by rw [h.2]; rfl⟩
    · exact ⟨fun h => (by cases h), fun h => by rcases h.1 with h | ⟨h, _⟩ <;> cases h⟩
  silence n := by
    rw [lawful3_stream]
    simp only [lawful3_deadline]
    split
    · exact ⟨fun _ => ⟨Or.inr (Or.inl rfl), by decide⟩, fun _ => ⟨_, rfl⟩⟩
    · exact ⟨fun h => (by obtain ⟨_, h⟩ := h; cases h), fun h => by rcases h.1 with h | h | h <;> cases h⟩
  age n := by
    rw [lawful3_stream, lawful3_page]
    simp only [lawful3_deadline]
    split
    · exact ⟨fun _ => ⟨⟨page, rfl, by decide⟩, by decide⟩, fun _ => ⟨_, rfl⟩⟩
    · exact ⟨fun h => (by obtain ⟨_, h⟩ := h; cases h), fun h => by obtain ⟨⟨_, h, _⟩, _⟩ := h; cases h⟩

theorem lawful3_storeLaw : lawful3.storeLaw where
  buffers := by
    have h : (List.finRange 64).flatMap (fun n => (lawful3.stream n).heldBuffers) = [0] := by decide +kernel
    rw [h]
    exact List.perm_append_comm.trans (List.Perm.of_eq (by decide +kernel))
  queues := by unfold State.queueBounded; decide +kernel
  bounded := by decide +kernel
  reserved := by decide +kernel
  total := by decide

theorem lawful3_lawful : lawful3.lawful :=
  ⟨lawful3_windowLaw, lawful3_closingLaw, lawful3_deadlineLaw, lawful3_storeLaw⟩

/-! ### Worked examples of the manual -/

/-- The check register over the digits 1 to 9, by R181. -/
theorem test_check_of_digits :
    frameCheck [0x31, 0x32, 0x33, 0x34, 0x35, 0x36, 0x37, 0x38, 0x39] = 0xFC891918#32 := by decide +kernel

/-- Section 3.9: the due test across the wrap. -/
theorem test_reached_across_wrap :
    reached 4294966500 4294967000 = false ∧ reached 4294967000 4294967000 = true ∧ reached 4294967295 704 = false
      ∧ reached 704 704 = true := by decide

/-- Section 2.9, steps 3 and 5: the margins of bursts 202 and 201. -/
theorem test_margins :
    let st := { openIn .running with head := 200, headDeadline := 12500 }
    st.offset 202 = 2 ∧ st.margin 2 10900 = 3600 ∧ st.offset 201 = 1 ∧ st.margin 1 11600 = 1900 ∧ st.offset 205 = 5
      ∧ ({ st with head := 201 } : Stream).offset 200 = 65535 := by decide

/-- Section 5.11: records of 32 samples in a 1024-byte page. -/
theorem test_record_sizes :
    recordSize 32 = 84 ∧ recordSize 1 = 24 ∧ recordSize 2 = 24 ∧ recordSize 0 = 20
      ∧ Page.hasRoom { page with used := 872 } 0 84 = true ∧ Page.hasRoom { page with used := 956 } 0 84 = false := by
  decide

/-- Section 9.9, steps 1, 2, 3, 7 and 9: the checks of orders. -/
theorem test_order_checks :
    checkOrder (recordOf [(0, 1), (1, 20)]) = .refuse { code := .badCode, value := 20 }
      ∧ checkOrder (openRecord 1 8 4 9000) = .refuse { code := .badField, value := 11 }
      ∧ checkOrder (openRecord 0 20 4 2500) = .refuse { code := .badField, value := 2 }
      ∧ checkOrder (recordOf [(0, 1), (1, 4), (16, 1), (17, 3), (20, 0x10000), (24, 0x10040), (28, 0x10070)])
          = .refuse { code := .badField, value := 5 }
      ∧ checkOrder (recordOf [(0, 1), (1, 3), (16, 1), (17, 4), (18, 99), (19, 20)])
          = .refuse { code := .badField, value := 5 } := by decide +kernel

/-- Section 9.9, steps 4 to 6: BUSY, the room check, NO ROOM. -/
theorem test_open_stream_room :
    ({ active with store := { active.store with reserved := 500 } } : State).roomFor { config with w := 8, q := 4 } = true
      ∧ ({ active with store := { active.store with reserved := 512 } } : State).roomFor { config with w := 2, q := 1 }
          = false := by decide +kernel

/-- R164's example: members 3, 40 and 64 with 40 written last. -/
theorem test_tally_rotation :
    ({ Tally.reset with
        last := 40
        pending := Vector.ofFn (fun i => if i = 3 ∨ i = 40 ∨ i = 64 then some { zero := false, order := false } else none) } :
      Tally).next.map (fun p => p.1) = some 64 := by decide +kernel

/-- An abandoned HUNT run: seven IDLEs, another symbol, and the count begins again (R100). -/
theorem test_hunt_run_breaks :
    (((withA { Receiver.reset with state := .hunt, idleRun := 7 }).symbol .a (State.breakIdleRun .a) id).rxA.idleRun) = 0 := by
  decide +kernel

/-- An order record's outcome: the result at offset 4, then the state word at offset 0 (R131). -/
theorem test_outcome_writes :
    (OutcomeWrite.tx { ref := ref, kind := .final { code := .badField, value := 11 } none, resultDone := false }).body
        = .write [17, 0, 0, 0, 11, 0, 0, 0]
      ∧ (OutcomeWrite.tx { ref := ref, kind := .final { code := .badField, value := 11 } none, resultDone := true }).body
        = .write [4, 1, 1, 0]
      ∧ (OutcomeWrite.tx { ref := ref, kind := .taken .barrier, resultDone := true }).body = .write [2, 1, 1, 0] := by
  decide

/-- R139, row 2: of the write of a final state that a fault abandons, nothing reaches memory; whether a TAKEN write did is
a free value (R178, log 6). -/
theorem test_abandoned_state_write :
    let final : OutcomeWrite := { ref := ref, kind := .final { code := .ok, value := 0 } none, resultDone := true }
    let taken : OutcomeWrite := { ref := ref, kind := .taken (.drain 3), resultDone := true }
    (flying active final.tx).abandonFlight = active
      ∧ taken.tx.mayLand = true ∧ (flying active taken.tx).abandonFlight.freeCount = 1 := by decide +kernel

/-- R162, R77: a supply that grows sets the changed-since-snapshot flag; one that stays does not. -/
theorem test_supply_change_sets_flag :
    (((with3 (openIn .running)).setSupply 3 [64]).stream 3).changed = true
      ∧ (((with3 (openIn .running)).setSupply 3 []).stream 3).changed = false := by decide +kernel

/-- R138: at entry to STOPPING a fetch that an outcome write goes before is not made; one that is in flight is waited for. -/
theorem test_stopping_drops_unissued_fetch :
    let s : State := { active with walker := { active.walker with
      activity := .fetch 64, writing := some { ref := ref, kind := .taken (.drain 3), resultDone := true } } }
    s.enterStopping.walker.activity = .idle
      ∧ (flying s { addr := 64, body := .read 64, role := .orderFetch }).enterStopping.walker.activity = .fetch 64 := by
  decide +kernel

/-- No table word spells a command (log 25). -/
theorem test_no_table_word : decodeTableWord 32 1 = none ∧ State.reset.withFetchWord 32 1 = State.reset := by
  exact ⟨rfl, rfl⟩

/-! ### Witnesses: the part as a whole -/

theorem test_hyp_StepRunsFrontCommand :
    ({ State.reset with pending := [.tick, .take] } : State).pending = .tick :: [.take] := rfl

/-- Idle and working parts; a link OFF, with a symbol taken, at 1,022 and at 1,023 lost periods; a transaction one and no
period short of the timeout. -/
theorem test_hyp_ClockPeriodCounts :
    (State.reset.pending = [] ∧ State.reset.port.flight = none ∧ State.reset.global.working = false)
    ∧ (active.pending = [] ∧ active.port.flight = none ∧ active.global.working = true ∧ (active.rx .a).state = .off
        ∧ active.time.divider ≤ active.time.divCount + 1)
    ∧ (let s := withA { Receiver.reset with state := .hunt, symbolTaken := true }
       (s.rx .a).state ≠ .off ∧ (s.rx .a).symbolTaken = true)
    ∧ (let s := withA { Receiver.reset with state := .hunt, lossCount := 1022 }
       (s.rx .a).symbolTaken = false ∧ (s.rx .a).lossCount + 1 < 1024)
    ∧ (∀ x ∈ [LinkState.hunt, .up], let s := withA { Receiver.reset with state := x, lossCount := 1023 }
       s.global.working = true ∧ s.pending = [] ∧ s.port.flight = none ∧ (s.rx .a).state = x
         ∧ (s.rx .a).symbolTaken = false ∧ 1024 ≤ (s.rx .a).lossCount + 1)
    ∧ (let f : Flight := { tx := writeTx .pageState, periods := 65534 }
       let s : State := { active with port := { active.port with flight := some f } }
       s.pending = [] ∧ s.port.flight = some f ∧ s.global.canFault = true ∧ f.periods + 1 < 65536)
    ∧ (let f : Flight := { tx := writeTx .pageState, periods := 65535 }
       let s : State := { active with port := { active.port with flight := some f } }
       s.pending = [] ∧ s.port.flight = some f ∧ s.global.canFault = true ∧ 65536 ≤ f.periods + 1) := by decide +kernel

theorem test_hyp_ResetsSetEveryBlock :
    State.reset.port.flight = none
    ∧ (flying active (writeTx .pageState)).port.flight = some { tx := writeTx .pageState, periods := 0 }
    ∧ (writeTx (.outcomeState true)).role = .outcomeState true
    ∧ (flying active (writeTx (.outcomeState true))).port.flight
        = some { tx := writeTx (.outcomeState true), periods := 0 }
    ∧ ¬ (writeTx .pageState).touches 0x1001
    ∧ (4#32).getLsbD 2 = true ∧ State.reset.resetHeld = false
    ∧ ({ State.reset with resetHeld := true } : State).resetHeld = true := by
  refine ⟨rfl, rfl, rfl, rfl, ?_, by decide, rfl, rfl⟩
  rintro ⟨i, hi, ha⟩
  have h0 : i = 0 := by simpa [writeTx, TxBody.data] using hi
  subst h0
  simp [writeTx, byteAddr] at ha

/-- RUN: a usable ROOT at both ends of its range, ROOT 0, ROOT not aligned; RUN 0 in ACTIVE with the walker idle, with an order
to be answered, with a read that it presents, with one in flight, and with one that an outcome write goes before; and the five other
cases. -/
theorem test_hyp_RunWriteByGlobalState :
    let walk (a : Activity) (o : Option OutcomeWrite) : State :=
      { active with walker := { active.walker with activity := a, writing := o } }
    let taken : OutcomeWrite := { ref := ref, kind := .taken (.drain 3), resultDone := true }
    ((1#32).getLsbD 0 = true ∧ (1#32).getLsbD 1 = false ∧ (1#32).getLsbD 2 = false ∧ (0#32).getLsbD 0 = false)
    ∧ (State.reset.resetHeld = false ∧ State.reset.global = .idle ∧ State.reset.port.flight = none)
    ∧ ((64#32 ≠ 0 ∧ (64#32).toNat % 64 = 0) ∧ (0xFFFFFFC0#32 ≠ 0 ∧ (0xFFFFFFC0#32).toNat % 64 = 0))
    ∧ (¬ (0#32 ≠ 0) ∧ (1#32).toNat % 64 ≠ 0 ∧ (0xFFFFFFFF#32).toNat % 64 ≠ 0)
    ∧ (active.global = .active ∧ active.walker.activity = .idle)
    ∧ ((walk (.finish ref { code := .ok, value := 0 }) none).walker.activity = .finish ref { code := .ok, value := 0 })
    ∧ ((walk .linkRead none).walker.activity = .linkRead ∧ (walk .linkRead none).readOut)
    ∧ (flying (walk (.fetch 64) (some taken)) { addr := 64, body := .read 64, role := .orderFetch }).readOut
    ∧ ((walk (.fetch 64) (some taken)).walker.activity = .fetch 64 ∧ ¬ (walk (.fetch 64) (some taken)).readOut)
    ∧ (({ active with global := .starting } : State).global = .starting
      ∧ ({ active with global := .stopping .tallies } : State).global = .stopping .tallies
      ∧ ({ active with global := .faulted } : State).global = .faulted
      ∧ ({ active with global := .faulted } : State).resetHeld = false) := by
  refine ⟨by decide, ⟨rfl, rfl, rfl⟩, by decide, by decide, ⟨rfl, rfl⟩, rfl, ⟨rfl, Or.inr ?_⟩, Or.inl ⟨_, rfl, Or.inr rfl⟩, ⟨rfl, ?_⟩,
    ⟨rfl, rfl, rfl, rfl⟩⟩
  · rintro (h | ⟨_, _, h, _⟩)
    · exact h rfl
    · cases h
  · rintro (⟨_, h, _⟩ | h)
    · cases h
    · exact h (Or.inl (Option.some_ne_none _))

theorem test_hyp_NudgeByWalkerState :
    ((3#32).getLsbD 0 = true ∧ (3#32).getLsbD 1 = true ∧ (3#32).getLsbD 2 = false ∧ (2#32).getLsbD 0 = false
      ∧ (1#32).getLsbD 0 = (3#32).getLsbD 0 ∧ (1#32).getLsbD 1 = false ∧ (1#32).getLsbD 2 = false)
    ∧ (active.resetHeld = false ∧ active.global = .active ∧ active.walker.state = .parked)
    ∧ (∀ w ∈ [WalkerState.walking, .barrierWait],
        ({ active with walker := { active.walker with state := w } } : State).walker.state = w)
    ∧ (∀ g ∈ [GlobalState.starting, .stopping .order, .faulted, .idle], ({ active with global := g } : State).global = g) := by
  decide +kernel

theorem test_hyp_CauseWriteClearsBits :
    State.reset.resetHeld = false ∧ (0x7F#32).getLsbD 0 = true ∧ (0x7F#32).getLsbD 6 = true := by decide

theorem test_hyp_RegisterWritesAndReads :
    (State.reset.resetHeld = false ∧ State.reset.global = .idle ∧ active.global ≠ .idle)
    ∧ ({ State.reset with cause := 0x40#7, enable := 0x40#7 } : State).interruptLine = true
    ∧ ({ State.reset with cause := 0x40#7, enable := 0x3F#7 } : State).interruptLine = false
    ∧ WellFormed (.registerWriteIgnored 0x04#5 .half 1#32) = true
    ∧ WellFormed (.registerWriteIgnored 0x00#5 .word 1#32) = true
    ∧ WellFormed (.registerWriteIgnored 0x0D#5 .word 1#32) = true
    ∧ ∀ i ∈ [3, 7, 11, 15, 18, 31], (3 ≤ i ∧ i ≤ 7) ∨ (11 ≤ i ∧ i ≤ 15) ∨ (18 ≤ i ∧ i ≤ 31) := by decide +kernel

/-- A root record from offsets and values. -/
def rootOf (divider sweep : Nat) : BitVec 256 :=
  [(0, 0x2416A5C3), (4, 1), (6, divider), (12, 0x8000), (16, sweep)].foldl
    (fun r p => r ||| (BitVec.ofNat 256 p.2 <<< (8 * p.1))) 0

/-- STARTING, with RUN 1 and with RUN 0 and the blocks at rest: records with dividers 1 and 1,024 are valid, with 0 and 1,025 not. -/
theorem test_hyp_RootReadCompletes :
    let s (run : Bool) : State := flying { State.reset with global := .starting, root := 0x40, run := run }
      { addr := 0x40, body := .read 32, role := .rootRead }
    (∀ run, (s run).global = .starting ∧ (s run).run = run
       ∧ ((s run).walker.writing = none ∧ (s run).walker.outcomes = [])
       ∧ (s run).port.flight = some { tx := { addr := 0x40, body := .read 32, role := .rootRead }, periods := 0 })
    ∧ (∀ d ∈ [1, 1024], let r := rootOf d 5
        r.extractLsb' 0 32 = 0x2416A5C3#32 ∧ r.extractLsb' 32 16 = 1#16 ∧ (r.extractLsb' 48 16).toNat = d
          ∧ r.extractLsb' 96 32 ≠ 0 ∧ (r.extractLsb' 96 32).toNat % 64 = 0)
    ∧ rootValid (rootOf 0 5) = false ∧ rootValid (rootOf 1025 5) = false :=
  ⟨fun _ => ⟨rfl, rfl, ⟨rfl, rfl⟩, rfl⟩, by decide +kernel, by decide +kernel, by decide +kernel⟩

/-- The stop sequence: each step with its work undone, and steps 2 and 5 with their work done. -/
theorem test_hyp_StopSequenceSteps :
    let at1 (p : StopStep) : State := { active with global := .stopping p }
    let drain : HeldDrain := { ref := ref, stream := 3, takenWritten := true, settled := false }
    (active.global = .active)
    ∧ (let s : State := { at1 .order with walker := { active.walker with activity := .linkRead } }
       s.global = .stopping .order ∧ s.walker.activity ≠ .idle)
    ∧ (let s : State := { at1 .held with walker := { active.walker with held := [drain] } }
       s.global = .stopping .held ∧ s.walker.held ≠ [])
    ∧ (let s := holding (at1 .links) (frame 1 false false)
       s.global = .stopping .links ∧ s.acceptance.held ≠ none)
    ∧ (let s := (at1 .streams).setStream 3 (openIn .draining)
       s.global = .stopping .streams ∧ (s.stream 3).state ≠ .closed)
    ∧ (let s := (at1 .tallies).join 64
       s.global = .stopping .tallies ∧ s.tally.pending[(64 : Fin 65)] ≠ none)
    ∧ (let s := holding (at1 .held) (frame 1 false false)
       s.global = .stopping .held ∧ s.walker.held = [] ∧ s.walker.heldBarrier = none ∧ s.walker.outcomes = []
         ∧ s.walker.writing = none ∧ s.acceptance.held ≠ none)
    ∧ (let s : State := { at1 .tallies with root := 64 }
       s.global = .stopping .tallies ∧ (∀ i : Fin 65, s.tally.pending[i] = none) ∧ s.tally.write = none ∧ s.run = false
         ∧ ({ s with run := true } : State).run = true ∧ s.root ≠ 0 ∧ s.root.toNat % 64 = 0) := by decide +kernel

/-- Each step with its work done: links OFF and a link still UP, an open stream to close, a changed record and none. -/
theorem test_hyp_StopSequenceProgress :
    let at1 (p : StopStep) : State := { active with global := .stopping p }
    ((at1 .order).global = .stopping .order ∧ (at1 .order).walker.activity = .idle)
    ∧ (∀ x ∈ [LinkState.off, .hunt, .up], let s : State := { at1 .held with rxA := { Receiver.reset with state := x } }
        s.global = .stopping .held ∧ s.walker.held = [] ∧ s.walker.heldBarrier = none ∧ s.walker.outcomes = []
          ∧ s.walker.writing = none ∧ (s.rx .a).state = x ∧ s.rxB.state = .off)
    ∧ (let s := (at1 .links).setStream 3 (openIn .running)
       s.global = .stopping .links ∧ s.rxA.state = .off ∧ s.rxB.state = .off ∧ s.acceptance.held = none
         ∧ (s.stream 3).state ≠ .closed ∧ (s.stream 3).closing = none ∧ (s.stream 4).state = .closed)
    ∧ (∀ c ∈ [true, false], let s := (at1 .streams).setStream 3 { Stream.reset with changed := c }
        s.global = .stopping .streams ∧ (∀ n, (s.stream n).state = .closed) ∧ (s.stream 3).changed = c) := by
  decide +kernel

/-! ### Witnesses: the Memory Port and time -/

/-- With the Tally Writer granted last: a walker's read, a lane write, a tally write, and nothing. -/
theorem test_hyp_GrantIsRoundRobin :
    let walk : State := { active with walker := { active.walker with activity := .linkRead } }
    let lane : State := { active with lane := { active.lane with todo := [writeTx .pageHeader] } }
    let tally : State := { active with tally := { active.tally with
      write := some { index := 0, orderMark := false, todo := [writeTx .tallyOdd] } } }
    active.global.working = true ∧ active.port.flight = none ∧ active.port.lastGranted = .tally
    ∧ (walk.present .walker).isSome = true
    ∧ lane.present .walker = none ∧ (lane.present .delivery).isSome = true
    ∧ tally.present .walker = none ∧ tally.present .delivery = none ∧ (tally.present .tally).isSome = true
    ∧ active.present .walker = none ∧ active.present .delivery = none ∧ active.present .tally = none
    ∧ (flying active (writeTx .pageState)).port.flight ≠ none := by decide +kernel

/-- Lane and Tally Writer with and without work; each kind of outcome write begun; an entry that is ready and one that waits for its
TAKEN write; each of the walker's activities; step 2 of the stop sequence with a drain, a barrier and neither to refuse. -/
theorem test_hyp_RequestersPresentInOrder :
    let walk (a : Activity) (held : List HeldDrain) (b : Option HeldBarrier) (l : List OutcomeEntry) (g : GlobalState) : State :=
      { active with global := g, walker := { active.walker with
          activity := a, held := held, heldBarrier := b, outcomes := l } }
    let drain (w s : Bool) : HeldDrain := { ref := ref, stream := 3, takenWritten := w, settled := s }
    let barrier (s : Bool) : HeldBarrier := { ref := ref, takenWritten := true, settled := s }
    let entry : OutcomeEntry := { ref := ref, result := { code := .ok, value := 2 }, source := .drain 3 }
    (active.lane.todo = [] ∧ active.tally.write = none ∧ active.walker.writing = none)
    ∧ (∀ k ∈ [OutcomeKind.taken (.drain 3), .final { code := .ok, value := 0 } none, .final { code := .stopped, value := 0 } none],
        ∀ d ∈ [true, false], let o : OutcomeWrite := { ref := ref, kind := k, resultDone := d }
        ({ active with walker := { active.walker with writing := some o } } : State).walker.writing = some o)
    ∧ (ResultCode.ok ∈ [ResultCode.ok, .nothing, .overtaken, .somePart]
        ∧ ResultCode.stopped ∉ [ResultCode.ok, .nothing, .overtaken, .somePart])
    ∧ ((walk .linkRead [drain true true] none [entry] .active).walker.outcomes = entry :: []
        ∧ (walk .linkRead [drain true true] none [entry] .active).takenStands entry)
    ∧ (∀ a h b g, ¬ (walk a h b [] g).outcomeFirst)
    ∧ (∀ a b g, ¬ (walk a [drain false true] b [entry] g).outcomeFirst)
    ∧ (∀ s ∈ [true, false], let w := walk .idle [drain true true, drain true s] (some (barrier s)) [] (.stopping .held)
        w.global = .stopping .held ∧ w.walker.activity = .idle ∧ w.walker.held = [drain true true] ++ drain true s :: []
          ∧ w.walker.heldBarrier = some (barrier s) ∧ (drain true s).settled = s ∧ (barrier s).settled = s) := by
  refine ⟨by decide +kernel, by decide +kernel, by decide, ⟨rfl, Or.inl ⟨3, rfl, _, List.mem_singleton.2 rfl, rfl, rfl, rfl⟩⟩, ?_, ?_,
    by decide +kernel⟩
  · rintro a h b g (c | ⟨_, _, c, _⟩)
    · exact c rfl
    · cases c
  · rintro a b g (c | ⟨_, _, c, d⟩)
    · exact c rfl
    · cases c
      rcases d with ⟨_, _, h, m, _, _, w⟩ | ⟨x, _⟩
      · cases List.mem_singleton.1 m
        cases w
      · cases x

/-- A working part with a transaction in flight. -/
theorem flying_of (s : State) (tx : Tx) (h : s.global.working = true) : (flying s tx).flying tx := ⟨h, 0, rfl⟩

theorem test_hyp_ResponseCompletesPart :
    (flying active (writeTx .pageHeader)).flying (writeTx .pageHeader)
    ∧ (flying active (writeTx .outcomeResult)).flying (writeTx .outcomeResult)
    ∧ (writeTx .pageHeader).body.data.length ≤ 64 :=
  ⟨flying_of _ _ rfl, flying_of _ _ rfl, by decide⟩

theorem test_hyp_BusFaultsFreezeThePart :
    ∀ g ∈ [GlobalState.starting, .active, .stopping .streams],
      let s := flying { active with global := g } (writeTx (.recordPart true))
      s.global = g ∧ s.port.flight = some { tx := writeTx (.recordPart true), periods := 0 }
        ∧ (flying { active with global := g } (writeTx (.outcomeState true))).port.flight
          = some { tx := writeTx (.outcomeState true), periods := 0 }
        ∧ (writeTx (.outcomeState true)).role = .outcomeState true := by
  decide +kernel

/-- Each global state; timers due at this tick and one tick ago; timers due one tick ahead and half the circle ago; timers
not armed. -/
theorem test_hyp_TicksAndDeviceTimers :
    active.global = .active ∧ State.reset.global = .idle
    ∧ (let s : State := { active with time := { active.time with
          tick := 5000, sweep := { armed := true, due := 5000, interval := 5 },
          tally := { armed := true, due := 4999, interval := 5 } } }
       s.global.working = true ∧ s.time.sweep.armed = true ∧ (s.time.tick - s.time.sweep.due).toNat < 2 ^ 31
         ∧ s.time.tally.armed = true ∧ (s.time.tick - s.time.tally.due).toNat < 2 ^ 31)
    ∧ (let s : State := { active with time := { active.time with
          tick := 5000, sweep := { armed := true, due := 5001, interval := 5 },
          tally := { armed := true, due := 0x80001388, interval := 5 } } }
       2 ^ 31 ≤ (s.time.tick - s.time.sweep.due).toNat ∧ (s.time.tick - s.time.tally.due).toNat = 2 ^ 31)
    ∧ active.time.sweep.armed = false ∧ active.time.tally.armed = false ∧ State.reset.global.working = false := by
  decide +kernel

theorem test_hyp_CancelRemovesEntry : State.reset.deadline 3 .head = none := by decide +kernel

/-- Due ticks reached: now, and as long ago as the half circle allows; entries one tick ahead and half the circle ago; no
entry; a part that does not work. -/
theorem test_hyp_ArmReplacesEntry :
    (active.global.working = true ∧ (active.time.tick - 0).toNat < 2 ^ 31
      ∧ (active.time.tick - 0x80000001#32).toNat < 2 ^ 31)
    ∧ (∀ k ∈ [DeadlineKind.head, .silence, .age],
        (withDue active k 1).deadline 3 k = some 1 ∧ (withDue active k 0x80000000).deadline 3 k = some 0x80000000)
    ∧ 2 ^ 31 ≤ (active.time.tick - 1).toNat ∧ (active.time.tick - 0x80000000#32).toNat = 2 ^ 31
    ∧ active.deadline 3 .head = none ∧ State.reset.global.working = false := by decide +kernel

/-! ### Witnesses: expiries of a stream -/

/-- ACTIVE with stream 3 and a due entry of it. -/
def due3 (st : Stream) (k : DeadlineKind) : State := withDue (with3 st) k 0

/-- One place left in the queue; RUNNING, DRAINING with a later burst, and DRAINING with the last one. -/
theorem test_hyp_HeadExpiryReleasesData :
    let st (x : StreamState) (rest : List (Option Burst)) : Stream :=
      { openIn x with window := some (burst 0) :: rest, queue := [record] }
    let later : List (Option Burst) := [none, some (burst 2), none]
    let gone : List (Option Burst) := [none, none, none]
    (due3 (st .running gone) .head).expiryDue 3 .head 0 ∧ ((due3 (st .running gone) .head).stream 3).state = .running
    ∧ ((due3 (st .running gone) .head).stream 3).queue.length + 1 = ((due3 (st .running gone) .head).stream 3).config.q
    ∧ (due3 (st .draining later) .head).expiryDue 3 .head 0 ∧ ((due3 (st .draining later) .head).stream 3).state = .draining
    ∧ ((due3 (st .draining later) .head).stream 3).window = some (burst 0) :: later ∧ some (burst 2) ∈ later
    ∧ (due3 (st .draining gone) .head).expiryDue 3 .head 0
    ∧ ((due3 (st .draining gone) .head).stream 3).window = some (burst 0) :: gone ∧ ∀ x ∈ gone, x = none := by
  unfold State.expiryDue; decide +kernel

/-- The last fill before the limit, with one place left in the queue, for each fill policy. -/
theorem test_hyp_HeadExpiryFills :
    let st (p : FillPolicy) (kept : List Half) : Stream :=
      { openIn .running with config := { config with fillPolicy := p }, fillsInRow := 1, queue := [record], repeatStore := kept }
    (∀ x ∈ [(FillPolicy.constant, []), (.repeatStore, []), (.markOnly, []), (.repeatStore, [5#16])],
      let s := due3 (st x.1 x.2) .head
      s.expiryDue 3 .head 0 ∧ (s.stream 3).state = .running ∧ (s.stream 3).window = none :: [none, none, none]
        ∧ (s.stream 3).fillsInRow + 1 = (s.stream 3).config.f ∧ (s.stream 3).queue.length + 1 = (s.stream 3).config.q
        ∧ (s.stream 3).config.fillPolicy = x.1 ∧ (s.stream 3).repeatStore = x.2)
    ∧ State.reset.store.pool.head? = some 0 := by
  unfold State.expiryDue; decide +kernel

/-- The fill limit just reached: a burst at offset 1 and at the last offset, and none; and a DRAINING stream. -/
theorem test_hyp_HeadExpirySkipsOrStalls :
    let st (x : StreamState) (win : List (Option Burst)) : Stream := { openIn x with fillsInRow := 2, window := win }
    let s (x : StreamState) (win : List (Option Burst)) : State := due3 (st x win) .head
    let near : List (Option Burst) := [none, some (burst 1), none, none]
    let far : List (Option Burst) := [none, none, none, some (burst 3)]
    (∀ win ∈ [near, far, List.replicate 4 none],
      (s .running win).expiryDue 3 .head 0 ∧ ((s .running win).stream 3).state = .running
        ∧ ((s .running win).stream 3).config.f = ((s .running win).stream 3).fillsInRow
        ∧ ((s .running win).stream 3).window = win)
    ∧ near = List.replicate 1 none ++ some (burst 1) :: [none, none]
    ∧ far = List.replicate 3 none ++ some (burst 3) :: []
    ∧ (∀ x ∈ List.replicate 4 (none : Option Burst), x = none)
    ∧ (s .draining far).expiryDue 3 .head 0 ∧ ((s .draining far).stream 3).state = .draining
    ∧ ((s .draining far).stream 3).window = far := by
  unfold State.expiryDue; decide +kernel

/-- A queue that is just full: RUNNING with a burst and without one; DRAINING with a later burst and with the last one. -/
theorem test_hyp_HeadExpiryStarves :
    let st (x : StreamState) (win : List (Option Burst)) : Stream :=
      { openIn x with queue := [record, record], fillsInRow := 1, window := win }
    let s (x : StreamState) (win : List (Option Burst)) : State := due3 (st x win) .head
    let gone : List (Option Burst) := [none, none, none]
    let later : List (Option Burst) := [none, none, some (burst 3)]
    (∀ b ∈ [some (burst 0), none], let u := s .running (b :: gone)
      u.expiryDue 3 .head 0 ∧ (u.stream 3).state = .running ∧ (u.stream 3).queue.length = (u.stream 3).config.q
        ∧ (u.stream 3).window = b :: gone ∧ (u.stream 3).fillsInRow < (u.stream 3).config.f)
    ∧ (let u := due3 { st .running (none :: gone) with
         config := { config with fillPolicy := .repeatStore }, repeatStore := [5] } .head
       u.expiryDue 3 .head 0 ∧ (u.stream 3).queue.length = (u.stream 3).config.q ∧ (u.stream 3).window = none :: gone
        ∧ (u.stream 3).config.fillPolicy = .repeatStore ∧ (u.stream 3).repeatStore = [5]
        ∧ u.store.pool.head? = some 0)
    ∧ (∀ rest ∈ [gone, later], let u := s .draining (some (burst 0) :: rest)
      u.expiryDue 3 .head 0 ∧ (u.stream 3).state = .draining ∧ (u.stream 3).queue.length = (u.stream 3).config.q
        ∧ (u.stream 3).window = some (burst 0) :: rest ∧ 1 ≤ (u.stream 3).config.q)
    ∧ some (burst 3) ∈ later ∧ (∀ x ∈ gone, x = none) := by
  unfold State.expiryDue; decide +kernel

theorem test_hyp_SilenceAndAgeExpiries :
    (∀ x ∈ [StreamState.acquiring, .running, .stalled],
      (due3 (openIn x) .silence).expiryDue 3 .silence 0 ∧ ((due3 (openIn x) .silence).stream 3).state = x)
    ∧ (let s := withDue (with3p (openIn .running) { PageState.reset with current := some page }) .age 0
       s.expiryDue 3 .age 0 ∧ (s.page 3).current = some page) := by
  unfold State.expiryDue; decide +kernel

/-! ### Witnesses: the links -/

/-- HUNT at idle runs 0, 6 and 7; OFF; an idle part. -/
theorem test_hyp_HuntAndOffSymbols :
    (∀ k ∈ [0, 6], let s := withA { Receiver.reset with state := .hunt, idleRun := k }
      s.global.working = true ∧ (s.rx .a).state = .hunt ∧ (s.rx .a).idleRun + 1 < 8)
    ∧ (let s := withA { Receiver.reset with state := .hunt, idleRun := 7 }
       (s.rx .a).state = .hunt ∧ 8 ≤ (s.rx .a).idleRun + 1)
    ∧ (active.rx .b).state = .off ∧ State.reset.global.working = false := by decide +kernel

/-- UP in each assembly, the violation run at 6, and 141 and 142 bytes assembled. -/
theorem test_hyp_FrameSymbols :
    let r (x : Assembly) (k : Nat) : State :=
      withA { Receiver.reset with state := .up, assembly := x, violationRun := 6, bytes := List.replicate k 0 }
    (∀ x ∈ [Assembly.outside, .inFrame, .discarding],
      (r x 0).global.working = true ∧ ((r x 0).rx .a).state = .up ∧ ((r x 0).rx .a).assembly = x
        ∧ ((r x 0).rx .a).violationRun + 1 < 8)
    ∧ ((r .inFrame 141).rx .a).bytes.length < 142 ∧ 142 ≤ ((r .inFrame 142).rx .a).bytes.length := by decide +kernel

/-- The shortest frame, n = 1: tag 0x0102, sequence 0x0304, one sample, with its flags and its frame check. -/
def shortFrame (flags : Byte) (check : Word) : List Byte := [1, 2, 3, 4, 5, 6, 7, 8, 1, flags, 0x12, 0x34] ++ (le32 check).reverse

/-- END: too short, a count that is not the length's, reserved flags, a wrong check; a good frame with both buffers full
and with one free; and the longest frame's length, 142 bytes. -/
theorem test_hyp_EndChecksFrame :
    let good := shortFrame 3 (frameCheck ((shortFrame 3 0).take 12))
    let s (b : List Byte) (x : Vector Staging 2) : State :=
      withA { Receiver.reset with state := .up, assembly := .inFrame, bytes := b, staging := x }
    let free : Vector Staging 2 := Vector.replicate 2 .free
    let full : Vector Staging 2 := Vector.replicate 2 (.full (frame 1 false false))
    let half (b : List Byte) (i : Nat) : Half := b.getD i 0 ++ b.getD (i + 1) 0
    let word (b : List Byte) (i : Nat) : Word := half b i ++ half b (i + 2)
    ((s good free).global.working = true ∧ ((s good free).rx .a).state = .up ∧ ((s good free).rx .a).assembly = .inFrame)
    ∧ ¬ 16 ≤ (good.take 15).length
    ∧ (16 ≤ good.length ∧ good.length = 10 + 2 * (good.getD 8 0).toNat + 4)
    ∧ ((good.getD 9 0).extractLsb' 2 6 = 0#6 ∧ ((shortFrame 4 0).getD 9 0).extractLsb' 2 6 ≠ 0#6)
    ∧ frameCheck (good.take (10 + 2 * 1)) = word good (10 + 2 * 1)
    ∧ ¬ frameCheck ((shortFrame 3 0).take 12) = word (shortFrame 3 0) 12
    ∧ (∀ i : Fin 2, ((s good full).rx .a).staging[i] ≠ .free) ∧ ((s good free).rx .a).staging[(0 : Fin 2)] = .free
    ∧ 142 = 10 + 2 * 64 + 4 := by decide +kernel

/-- UP with a frame in progress, and outside a frame at violation run 7. -/
theorem test_hyp_LeaveUp :
    let s (x : Assembly) (k : Nat) : State := withA { Receiver.reset with state := .up, assembly := x, violationRun := k }
    ((s .inFrame 0).global.working = true ∧ ((s .inFrame 0).rx .a).state = .up ∧ ((s .inFrame 0).rx .a).assembly = .inFrame)
    ∧ 7 ≤ ((s .inFrame 7).rx .a).violationRun
    ∧ (7 ≤ ((s .outside 7).rx .a).violationRun ∧ ((s .outside 7).rx .a).assembly = .outside) := by decide +kernel

theorem test_hyp_SetLinkByLinkState :
    ∀ x ∈ [LinkState.off, .hunt, .up], ∀ e ∈ [true, false],
      let s := requesting (withA { Receiver.reset with state := x }) (.setLink .a e 1 2)
      s.requested ref (.setLink .a e 1 2) ∧ (s.rx .a).state = x := by
  unfold State.requested; decide +kernel

/-! ### Witnesses: acceptance -/

/-- A receiver with one FULL buffer. -/
def filled (f : Frame) : Receiver :=
  { Receiver.reset with state := .up, staging := (Vector.replicate 2 .free).set 0 (.full f), order := [0] }

/-- Stream 3 in a state, entry 5 of the Route Table, strays, and a frame FULL on link A with its filter. -/
def taking (x : StreamState) (route : Option Route) (strays : List Stray) (value mask : Half) (f : Frame) : State :=
  { with3 (openIn x) with
    rxA := { filled f with filterValue := value, filterMask := mask }
    acceptance := { Acceptance.reset with routes := (Vector.replicate 64 none).set 5 route, strays := strays } }

theorem taking_takes (x : StreamState) (route : Option Route) (strays : List Stray) (value mask : Half) (f : Frame) :
    (taking x route strays value mask f).takes .a 0 [] f := ⟨rfl, rfl, rfl, rfl, Or.inl LinkId.noConfusion⟩

theorem taking_routesUnique (x : StreamState) (route : Option Route) (strays : List Stray) (value mask : Half) (f : Frame) :
    (taking x route strays value mask f).routesUnique := by
  have only (i : Fin 64) (a : Route)
      (h : (taking x route strays value mask f).acceptance.routes[i] = some a) : i = 5 := by
    have h' : ((Vector.replicate 64 (none : Option Route)).set 5 route)[i.val] = some a := h
    rw [Vector.getElem_set] at h'
    split at h'
    · next e => exact Fin.ext e.symm
    · rw [Vector.getElem_replicate] at h'; cases h'
  exact fun i j a b ha hb _ => (only i a ha).trans (only j b hb).symm

/-- A stray of the list. -/
def stray : Stray := { tag := 0xCD, sequence := 1, length := 2, link := .a, arrival := 0 }

/-- The same link twice when no other has a frame; a frame filtered; strays with 7 and 8 entries; and each check of a
routed frame. -/
theorem test_hyp_TakeSettlesFrame :
    let f := frame 1 false false
    let t := frame 1 false true
    let route (mask : BitVec 2) : Route := { tag := 0xAB, mask := mask, stream := 3 }
    let again (s : State) : State := { s with acceptance := { s.acceptance with lastLink := .a } }
    ((holding active f).acceptance.held ≠ none ∧ active.rxA.order = [] ∧ active.rxB.order = [])
    ∧ (again (taking .running none [] 0 0 f)).takes .a 0 [] f
    ∧ ((taking .running none [] 1 0xFFFF f).takes .a 0 [] f ∧ f.tag &&& 0xFFFF#16 ≠ 1#16 &&& 0xFFFF#16)
    ∧ (∀ k, (taking .running none (List.replicate k stray) 0 0 f).takes .a 0 [] f)
    ∧ (∀ (j : Fin 64), (taking .running none [] 0 0 f).acceptance.routes[j] = none)
    ∧ (f.tag &&& 0#16 = 0#16 &&& 0#16 ∧ (List.replicate 7 stray).length < 8 ∧ ¬ (List.replicate 8 stray).length < 8)
    ∧ (∀ x m, (taking x (some (route m)) [] 0 0 f).takes .a 0 [] f ∧ (taking x (some (route m)) [] 0 0 f).routesUnique
        ∧ (taking x (some (route m)) [] 0 0 f).acceptance.routes[(5 : Fin 64)] = some (route m)
        ∧ (route m).tag = f.tag ∧ ((taking x (some (route m)) [] 0 0 f).stream 3).state = x)
    ∧ ((2#2).getLsbD 0 = false ∧ (1#2).getLsbD 0 = true)
    ∧ ((taking .running (some (route 1)) [] 0 0 t).takes .a 0 [] t
        ∧ (taking .running (some (route 1)) [] 0 0 t).routesUnique ∧ t.test = true
        ∧ ((taking .running (some (route 1)) [] 0 0 t).stream 3).config.options.acceptTest = false) := by
  refine ⟨by decide +kernel, ⟨rfl, rfl, rfl, rfl, Or.inr fun k hk => ?_⟩, ⟨taking_takes .., by decide⟩,
    fun k => taking_takes .., by decide +kernel, by decide, fun x m => ⟨taking_takes .., taking_routesUnique _ _ _ _ _ _, rfl, rfl, ?_⟩,
    by decide, ⟨taking_takes .., taking_routesUnique _ _ _ _ _ _, rfl, rfl⟩⟩
  · cases k
    · exact absurd rfl hk
    · rfl
  · rfl

/-- CLOSED and DRAINING; MARK SYNC with an unmarked burst; offsets 3, 32,768 and 65,535. -/
theorem test_hyp_OfferWithoutAnchoring :
    let h (q : Half) : HeldFrame := { link := .a, index := 0, frame := frame q false false, stream := 3 }
    let s (st : Stream) (q : Half) : State := holding (with3 st) (h q).frame
    let sync (x : StreamState) : Stream :=
      { openIn x with config := { config with options := { Options.off with markSync := true } } }
    (∀ x ∈ [StreamState.closed, .draining], (s (openIn x) 0).offers (h 0) ∧ ((s (openIn x) 0).stream 3).state = x)
    ∧ (∀ x ∈ [StreamState.acquiring, .stalled, .cut], (s (sync x) 0).offers (h 0) ∧ ((s (sync x) 0).stream 3).state = x
        ∧ ((s (sync x) 0).stream 3).config.options.markSync = true ∧ (h 0).frame.mark = false)
    ∧ (let full : Stream := { openIn .running with window := [none, none, none, some (burst 3)] }
       (s full 3).offers (h 3) ∧ ((s full 3).stream 3).state = .running
         ∧ ((h 3).frame.sequence - ((s full 3).stream 3).head).toNat + 1 = ((s full 3).stream 3).config.w
         ∧ ((s full 3).stream 3).window[3]? = some (some (burst 3)))
    ∧ ((s (openIn .running) 3).offers (h 3) ∧ ((s (openIn .running) 3).stream 3).window[3]? = some none
        ∧ (s (openIn .running) 3).store.pool.head? = some 0)
    ∧ (s (openIn .running) 32768).offers (h 32768) ∧ (s (openIn .running) 65535).offers (h 65535)
    ∧ ((h 32768).frame.sequence - ((s (openIn .running) 32768).stream 3).head).toNat = 32768
    ∧ ((s (openIn .running) 32768).stream 3).config.w ≤ 32768 := by
  unfold State.offers; decide +kernel

/-- Each waiting state; MARK SYNC on with a marked burst, and off with an unmarked one. -/
theorem test_hyp_OfferAnchors :
    let h (m : Bool) : HeldFrame := { link := .a, index := 0, frame := frame 7 m false, stream := 3 }
    let st (x : StreamState) (sync : Bool) : Stream :=
      { openIn x with config := { config with options := { Options.off with markSync := sync } } }
    let s (x : StreamState) (m : Bool) : State := holding (with3 (st x m)) (h m).frame
    ∀ x ∈ [StreamState.acquiring, .stalled, .cut], ∀ m ∈ [true, false],
      (s x m).offers (h m) ∧ (s x m).store.pool.head? = some 0 ∧ ((s x m).stream 3).state = x
        ∧ (((s x m).stream 3).config.options.markSync = true → (h m).frame.mark = true) := by
  unfold State.offers; decide +kernel

/-- Offsets W and 32,767; runs one short of K and at K, at the ceiling of 15, and K 0. -/
theorem test_hyp_OfferEarlyAndResync :
    let h (q : Half) (m : Bool) : HeldFrame := { link := .a, index := 0, frame := frame q m false, stream := 3 }
    let st (run k : Nat) (sync : Bool) : Stream :=
      { openIn .running with
        earlyRun := run, config := { config with k := k, options := { Options.off with markSync := sync } } }
    let s (run k : Nat) (sync : Bool) (q : Half) (m : Bool) : State := holding (with3 (st run k sync)) (h q m).frame
    (∀ q ∈ [4, 32767],
      (s 1 3 false (BitVec.ofNat 16 q) false).offers (h (BitVec.ofNat 16 q) false)
        ∧ ((s 1 3 false (BitVec.ofNat 16 q) false).stream 3).state = .running
        ∧ ((BitVec.ofNat 16 q) - ((s 1 3 false (BitVec.ofNat 16 q) false).stream 3).head).toNat = q
        ∧ ((s 1 3 false (BitVec.ofNat 16 q) false).stream 3).config.w ≤ q)
    ∧ (min 15 (((s 1 3 false 4 false).stream 3).earlyRun + 1) < ((s 1 3 false 4 false).stream 3).config.k)
    ∧ ((s 15 0 false 4 false).offers (h 4 false) ∧ ((s 15 0 false 4 false).stream 3).config.k = 0
        ∧ ((s 15 0 false 4 false).stream 3).earlyRun ≤ 15)
    ∧ (∀ x ∈ [(2, 3), (14, 15), (15, 15)],
        (s x.1 x.2 true 4 false).offers (h 4 false) ∧ ((s x.1 x.2 true 4 false).stream 3).config.k ≠ 0
        ∧ ((s x.1 x.2 true 4 false).stream 3).config.k ≤ min 15 (((s x.1 x.2 true 4 false).stream 3).earlyRun + 1)
        ∧ ((s x.1 x.2 true 4 false).stream 3).config.options.markSync = true ∧ (h 4 false).frame.mark = false)
    ∧ ((s 2 3 true 4 true).offers (h 4 true) ∧ (h 4 true).frame.mark = true
        ∧ (((s 2 3 true 4 true).stream 3).window.filterMap id) = [] ∧ (s 2 3 true 4 true).store.pool.head? = some 0) := by
  unfold State.offers; decide +kernel

/-- A route set with no other entry, and with entry 5 carrying the tag; a route cleared, set and not; one stray and none. -/
theorem test_hyp_AcceptanceOrders :
    let route : Route := { tag := 0xAB, mask := 1, stream := 3 }
    let s (o : Order) (r : Option Route) (k : List Stray) : State :=
      requesting (taking .running r k 0 0 (frame 1 false false)) o
    (s (.setRoute 0 route) none []).requested ref (.setRoute 0 route)
    ∧ (∀ j : Fin 64, (s (.setRoute 0 route) none []).acceptance.routes[j] = none)
    ∧ (s (.setRoute 0 route) (some route) []).requested ref (.setRoute 0 route)
    ∧ (s (.setRoute 0 route) (some route) []).routesUnique
    ∧ ((5 : Fin 64) ≠ 0 ∧ (s (.setRoute 0 route) (some route) []).acceptance.routes[(5 : Fin 64)] = some route)
    ∧ ((s (.clearRoute 5) none []).requested ref (.clearRoute 5)
        ∧ (s (.clearRoute 5) none []).acceptance.routes[(5 : Fin 64)] = none
        ∧ (s (.clearRoute 5) (some route) []).acceptance.routes[(5 : Fin 64)] = some route)
    ∧ ((s (.readStrays 64) none []).requested ref (.readStrays 64) ∧ (s (.readStrays 64) none []).acceptance.strays = []
        ∧ (s (.readStrays 64) none [stray]).requested ref (.readStrays 64)
        ∧ (s (.readStrays 64) none [stray]).acceptance.strays ≠ [])
    ∧ (let u : State := { active with walker := { active.walker with activity := .strays ref [] 1 } }
       (flying u (writeTx (.strayEntry true))).flying (writeTx (.strayEntry true))
         ∧ (flying u (writeTx (.strayEntry true))).walker.activity = .strays ref [] 1) :=
  ⟨⟨rfl, rfl⟩, by decide +kernel, ⟨rfl, rfl⟩,
    taking_routesUnique .running (some { tag := 0xAB, mask := 1, stream := 3 }) [] 0 0 (frame 1 false false), ⟨by decide, rfl⟩, ⟨⟨rfl, rfl⟩, rfl, rfl⟩,
    ⟨⟨rfl, rfl⟩, rfl, ⟨rfl, rfl⟩, by decide +kernel⟩, ⟨flying_of _ _ rfl, rfl⟩⟩

/-! ### Witnesses: the Order Walker -/

/-- A working part that has read a link word. -/
def linkRead (g : GlobalState) (sweep : Bool) : State :=
  { flying { active with global := g } { addr := 0x48, body := .read 4, role := .linkRead } with
    walker := { active.walker with state := .walking, sweepPending := sweep, activity := .linkRead } }

theorem test_hyp_LinkReadOutcomes :
    (∀ sweep ∈ [true, false], (linkRead .active sweep).global = .active
        ∧ (linkRead .active sweep).walker.sweepPending = sweep
        ∧ (linkRead .active sweep).port.flight
            = some { tx := { addr := 0x48, body := .read 4, role := .linkRead }, periods := 0 })
    ∧ (linkRead (.stopping .order) false).global = .stopping .order
    ∧ (64#32 ≠ 0 ∧ (64#32).toNat % 64 = 0 ∧ (1#32).toNat % 64 ≠ 0 ∧ (63#32).toNat % 64 ≠ 0) := by decide +kernel

/-- The fetch state, and byte 0 at 0, 1 and 2; codes 0, 11, 12; streams 63 and 64; buffers 0, 1 and 64. -/
theorem test_hyp_OrderFetchChecks :
    let byte (r : BitVec 512) (i : Nat) : Byte := r.extractLsb' (8 * i) 8
    (fetching.global.working = true
      ∧ fetching.port.flight = some { tx := { addr := 0x2000, body := .read 64, role := .orderFetch }, periods := 0 }
      ∧ fetching.walker.activity = .fetch 0x2000)
    ∧ byte (recordOf [(0, 0)]) 0 ≠ 1 ∧ byte (recordOf [(0, 2)]) 0 ≠ 1
    ∧ (byte (recordOf [(0, 1)]) 0 = 1 ∧ byte (recordOf [(0, 1)]) 1 = 0 ∧ 11 < (byte (recordOf [(0, 1), (1, 12)]) 1).toNat)
    ∧ byte (recordOf [(0, 1), (1, 11)]) 1 = 11
    ∧ (∀ c ∈ [5, 7], (byte (recordOf [(0, 1), (1, c), (16, 64)]) 1).toNat = c
        ∧ byte (recordOf [(0, 1), (1, c), (16, 64)]) 0 = 1
        ∧ 64 ≤ (byte (recordOf [(0, 1), (1, c), (16, 64)]) 16).toNat
        ∧ (byte (recordOf [(0, 1), (1, c), (16, 63)]) 16).toNat = (63 : Fin 64).val)
    ∧ (let r (b : Nat) : BitVec 512 := recordOf [(0, 1), (1, 10), (16, b)]
       byte (r 64) 0 = 1 ∧ byte (r 64) 1 = 10 ∧ (r 64).extractLsb' 128 32 ≠ 0
         ∧ ((r 64).extractLsb' 128 32).toNat % 64 = 0
         ∧ (r 0).extractLsb' 128 32 = 0 ∧ ((r 1).extractLsb' 128 32).toNat % 64 ≠ 0) := by decide +kernel

/-- The range of a field of OPEN STREAM, as the statement gives it. -/
def openGood (r : BitVec 512) (field : Nat) : Prop :=
  let byte (i : Nat) : Byte := r.extractLsb' (8 * i) 8
  let word (i : Nat) : Word := r.extractLsb' (8 * i) 32
  let w := (byte 17).toNat
  let p := (word 28).toNat
  let d := (word 32).toNat
  (field = 1 → (byte 16).toNat < 64) ∧ (field = 2 → 2 ≤ w ∧ w ≤ 16)
    ∧ (field = 3 → 1 ≤ (byte 18).toNat ∧ (byte 18).toNat ≤ 8)
    ∧ (field = 4 → 1 ≤ (byte 19).toNat ∧ (byte 19).toNat ≤ 64)
    ∧ (field = 5 → (byte 20).toNat ≤ 3) ∧ (field = 6 → (byte 21).toNat ≤ 2)
    ∧ (field = 8 → (byte 24).toNat ≤ 15) ∧ (field = 9 → (byte 25).toNat ≤ 15)
    ∧ (field = 10 → 1 ≤ p ∧ p ≤ 1048575) ∧ (field = 11 → p ≤ d ∧ d ≤ w * p)
    ∧ (field = 14 → (byte 26).toNat < 16)

theorem openGood_of (r : BitVec 512) (h : ∀ j ∈ [1, 2, 3, 4, 5, 6, 8, 9, 10, 11, 14], openGood r j) (j : Nat) :
    openGood r j := by
  by_cases hj : j ∈ [1, 2, 3, 4, 5, 6, 8, 9, 10, 11, 14]
  · exact h j hj
  · refine ⟨?_, ?_, ?_, ?_, ?_, ?_, ?_, ?_, ?_, ?_, ?_⟩ <;> rintro rfl <;> exact absurd (by decide) hj

/-- Good records at both ends of D and of W; field 2 bad after a good field 1; field 1 bad. -/
theorem test_hyp_OpenStreamFieldCheck :
    (∀ j, openGood (openRecord 63 2 1 1000) j) ∧ (∀ j, openGood (openRecord 0 16 8 16000) j)
    ∧ (¬ openGood (openRecord 0 17 4 2500) 2 ∧ ∀ i, i < 2 → openGood (openRecord 0 17 4 2500) i)
    ∧ (¬ openGood (openRecord 64 4 4 2500) 1 ∧ ∀ i, i < 1 → openGood (openRecord 64 4 4 2500) i)
    ∧ ((openRecord 0 4 4 2500).extractLsb' (8 * 0) 8 = 1#8 ∧ (openRecord 0 4 4 2500).extractLsb' (8 * 1) 8 = 1#8) := by
  refine ⟨openGood_of _ (by unfold openGood; decide +kernel), openGood_of _ (by unfold openGood; decide +kernel),
    ⟨by unfold openGood; decide +kernel, ?_⟩, ⟨by unfold openGood; decide +kernel, ?_⟩, by decide +kernel⟩
  · intro i hi
    have : i = 0 ∨ i = 1 := by omega
    rcases this with rfl | rfl <;> (unfold openGood; decide +kernel)
  · intro i hi
    obtain rfl : i = 0 := by omega
    unfold openGood; decide +kernel

/-- One record of each order, its fields at the ends of their ranges. -/
theorem test_hyp_OrderFieldsReachOwner :
    let byte (r : BitVec 512) (i : Nat) : Nat := (r.extractLsb' (8 * i) 8 : Byte).toNat
    let word (r : BitVec 512) (i : Nat) : Nat := (r.extractLsb' (8 * i) 32 : Word).toNat
    let close := recordOf [(0, 1), (1, 2), (16, 63), (17, 1)]
    let alter := recordOf [(0, 1), (1, 3), (16, 63), (17, 127), (18, 2), (19, 15), (22, 15), (23, 15)]
    let attach := recordOf [(0, 1), (1, 4), (16, 0), (17, 1), (20, 64)]
    let route := recordOf [(0, 1), (1, 6), (16, 63), (17, 3), (20, 63)]
    let link := recordOf [(0, 1), (1, 8), (16, 1), (17, 1)]
    let tally (n : Nat) := recordOf [(0, 1), (1, 9), (16, n), (17, 1)]
    (∀ x ∈ [(close, 2), (alter, 3), (attach, 4), (route, 6), (link, 8), (tally 64, 9), (tally 255, 9)],
      byte x.1 0 = 1 ∧ byte x.1 1 = x.2)
    ∧ (byte close 16 = 63 ∧ byte close 17 ≤ 1)
    ∧ (byte alter 16 = 63 ∧ (byte alter 17).testBit 7 = false ∧ byte alter 18 ≤ 2 ∧ byte alter 19 ≤ 15
        ∧ byte alter 22 ≤ 15 ∧ byte alter 23 < 16)
    ∧ (byte attach 16 = 0 ∧ 1 ≤ byte attach 17 ∧ byte attach 17 ≤ 8 ∧ word attach 20 ≠ 0 ∧ word attach 20 % 64 = 0
        ∧ ∀ i, i < 1 → i = 0)
    ∧ (byte route 16 = 63 ∧ 1 ≤ byte route 17 ∧ byte route 17 ≤ 3 ∧ byte route 20 = 63)
    ∧ (byte link 16 ≤ 1 ∧ byte link 17 ≤ 1)
    ∧ (byte (tally 64) 16 = (64 : Fin 65).val ∧ byte (tally 255) 16 = 255 ∧ byte (tally 64) 17 ≤ 1) := by decide +kernel

/-- For each order and each of its fields that can fail, a record whose first bad field it is, one past the range: the check
answers that number. A count of ATTACH PAGES of 9 is field 2; its eighth address is field 10. -/
theorem test_hyp_OrderFieldRefusals :
    let attach8 (last : Nat) : List (Nat × Nat) :=
      (16, 1) :: (17, 8) :: (48, last) :: (List.range 7).map (fun i => (20 + 4 * i, 64))
    (∀ x ∈ [(2, 1, [(16, 64)]), (2, 2, [(17, 2)]),
        (3, 1, [(16, 64)]), (3, 2, [(17, 128)]), (3, 3, [(17, 1), (18, 3)]), (3, 5, [(17, 4), (18, 3), (19, 16)]),
        (3, 6, [(17, 8), (22, 16)]), (3, 9, [(17, 64), (23, 16)]),
        (4, 1, [(16, 64)]), (4, 2, [(17, 0)]), (4, 2, [(17, 9)]), (4, 3, [(17, 1), (20, 63)]), (4, 10, attach8 0),
        (6, 1, [(16, 64)]), (6, 3, [(17, 0)]), (6, 3, [(17, 4)]), (6, 4, [(17, 3), (20, 64)]),
        (8, 1, [(16, 2)]), (8, 2, [(16, 1), (17, 2)]), (9, 1, [(16, 65)]), (9, 1, [(16, 254)]), (9, 2, [(16, 255), (17, 2)])],
      let r := recordOf ((0, 1) :: (1, x.1) :: x.2.2)
      (r.extractLsb' 0 8).toNat = 1 ∧ (r.extractLsb' 8 8).toNat = x.1
        ∧ checkOrder r = .refuse { code := .badField, value := BitVec.ofNat 32 x.2.1 })
    ∧ fetching.global.working = true ∧ fetching.walker.activity = .fetch 0x2000 := by decide +kernel

/-- A held drain of stream 3 whose TAKEN write is as given. -/
def drainOf (written settled : Bool) : HeldDrain := { ref := ref, stream := 3, takenWritten := written, settled := settled }

theorem test_hyp_BarrierAndWriteTallyTaken :
    let s (held : List HeldDrain) (o : Order) : State :=
      requesting { active with walker := { active.walker with held := held } } o
    (s [] .barrier).requested ref .barrier ∧ (s [] .barrier).walker.held = []
    ∧ (s [drainOf true false] .barrier).requested ref .barrier ∧ (s [drainOf true false] .barrier).walker.held ≠ []
    ∧ (s [] (.writeTally .all true)).requested ref (.writeTally .all true)
    ∧ (s [] (.writeTally (.one 64) false)).requested ref (.writeTally (.one 64) false) := by
  unfold State.requested; decide +kernel

/-- The state write of an outcome of each kind, with held orders as given. -/
def ending (g : GlobalState) (kind : OutcomeKind) (held : List HeldDrain) (barrier : Option HeldBarrier) : State :=
  { flying { active with global := g } (writeTx (.outcomeState true)) with
    walker := { active.walker with
      state := .walking, held := held, heldBarrier := barrier
      writing := some { ref := ref, kind := kind, resultDone := true } } }

theorem test_hyp_OutcomeStateWritten :
    let bar : HeldBarrier := { ref := ref, takenWritten := true, settled := false }
    let done : OutcomeKind := .final { code := .ok, value := 0 } (some (.drain 3))
    let other : HeldDrain := { drainOf true false with stream := 4 }
    (∀ g k h b, g.working = true → (ending g k h b).flying (writeTx (.outcomeState true))
        ∧ (ending g k h b).walker.writing = some { ref := ref, kind := k, resultDone := true })
    ∧ (GlobalState.active.working = true ∧ (GlobalState.stopping .held).working = true
        ∧ (writeTx (.outcomeState true)).body.data.length ≤ 64)
    ∧ ((ending .active done [drainOf true true, other] none).walker.held.filter
        (fun h => !(h.stream == 3 && h.settled)) ≠ [])
    ∧ ((ending .active done [drainOf true true] (some bar)).walker.held.filter
        (fun h => !(h.stream == 3 && h.settled)) = [] ∧ bar.settled = false)
    ∧ ((ending .active (.taken .barrier) [] (some bar)).global = .active
        ∧ (ending (.stopping .held) (.taken .barrier) [] (some bar)).global ≠ .active) :=
  ⟨fun _ _ _ _ hg => ⟨⟨hg, 0, rfl⟩, rfl⟩, by decide +kernel, by decide +kernel, by decide +kernel, by decide +kernel⟩

/-! ### Witnesses: stream orders -/

/-- A state that is not CLOSED; reservations at 505 and 506 of 512 for W 4 and Q 2 and 3. -/
theorem test_hyp_OpenStreamEffect :
    let s (st : Stream) (reserved : Nat) (c : StreamConfig) : State :=
      requesting { with3 st with store := { active.store with reserved := reserved } } (.openStream 3 c)
    ((s (openIn .cut) 0 config).requested ref (.openStream 3 config) ∧ ((s (openIn .cut) 0 config).stream 3).state ≠ .closed)
    ∧ (∀ k ∈ [505, 506, 507], (s .reset k config).requested ref (.openStream 3 config)
        ∧ ((s .reset k config).stream 3).state = .closed ∧ ((s .reset k config).stream 3).closing = none)
    ∧ (s .reset 506 config).store.reserved + (config.w + config.q) ≤ 512
    ∧ 512 < (s .reset 507 config).store.reserved + (config.w + config.q) := by
  unfold State.requested; decide +kernel

/-- A closing sequence at its first step. -/
def closing : Closing := { reason := .close, phase := .waitLane, returned := 0 }

theorem test_hyp_DrainCloseByState :
    let s (drain : Bool) (st : Stream) : State := requesting (with3 st) (.closeStream 3 drain)
    (∀ d ∈ [true, false], (s d .reset).requested ref (.closeStream 3 d) ∧ ((s d .reset).stream 3).state = .closed)
    ∧ (let c := { openIn .draining with closing := some closing }
       (s false c).requested ref (.closeStream 3 false) ∧ ((s false c).stream 3).state ≠ .closed
         ∧ ((s false c).stream 3).closing ≠ none ∧ ((s true c).stream 3).state = .draining)
    ∧ (∀ x ∈ [StreamState.acquiring, .running, .stalled, .cut],
        (s true (openIn x)).requested ref (.closeStream 3 true) ∧ ((s true (openIn x)).stream 3).state = x
        ∧ (∀ y ∈ ((s true (openIn x)).stream 3).window, y = none) ∧ ((s true (openIn x)).stream 3).queue = []
        ∧ ((s true (openIn x)).stream 3).closing = none ∧ (s true (openIn x)).lane.op = none
        ∧ ((s true { openIn x with queue := [record] }).stream 3).queue ≠ []
        ∧ ¬ ∀ y ∈ ((s true { openIn x with window := [some (burst 0)] }).stream 3).window, y = none) := by
  unfold State.requested; decide +kernel

/-- With and without a record operation of the stream in flight; RUNNING and DRAINING. -/
theorem test_hyp_ImmediateCloseFlushes :
    let s (x : StreamState) (op : Option LaneOp) : State :=
      requesting { with3 { openIn x with window := [some (burst 0), none], queue := [record, record] } with
        lane := { active.lane with op := op } } (.closeStream 3 false)
    ∀ x ∈ [StreamState.running, .draining],
      (s x none).requested ref (.closeStream 3 false) ∧ ((s x none).stream 3).state = x
        ∧ ((s x none).stream 3).closing = none ∧ (s x none).lane.op = none
        ∧ (s x (some (.record 3 0))).requested ref (.closeStream 3 false)
        ∧ (s x (some (.record 3 0))).lane.op = some (.record 3 0) := by
  unfold State.requested; decide +kernel

/-- The lane busy with the stream or not; a closing page, a current page, neither; a supply and none; the held drain, the
waiting immediate close, both and neither. -/
theorem test_hyp_ClosingSequenceSteps :
    let st : Stream := { openIn .draining with closing := some closing }
    let cp : ClosingPage := { page := page, reason := .age, flushWaits := false, issued := true }
    let waiting (a : Activity) (held : List HeldDrain) : State :=
      { with3 st with walker := { active.walker with activity := a, held := held } }
    (({ with3 st with lane := { active.lane with op := some (.giveBack 3) } } : State).laneBusyWith 3 = true
      ∧ (with3 st).laneBusyWith 3 = false)
    ∧ (((with3p st { PageState.reset with closingPage := some cp }).stream 3).closing = some closing
        ∧ ((with3p st { PageState.reset with closingPage := some cp }).page 3).closingPage = some cp)
    ∧ ((with3p st { PageState.reset with current := some page }).page 3).current = some page
    ∧ (((with3 st).page 3).closingPage = none ∧ ((with3 st).page 3).current = none ∧ ((with3 st).page 3).supply = [])
    ∧ ((with3p st { PageState.reset with supply := [64] }).page 3).supply ≠ []
    ∧ ((waiting .idle []).walker.held = [] ∧ (waiting .idle []).walker.activity = .idle
        ∧ (waiting (.waitClose ref 3) []).walker.activity = .waitClose ref 3)
    ∧ ((waiting (.waitClose ref 3) [drainOf true false]).walker.held = [] ++ drainOf true false :: []
        ∧ (drainOf true false).stream = 3 ∧ (drainOf true false).settled = false) := by decide +kernel

/-- A CLOSED and a closing stream; each measured state; a page with a record and one without. -/
theorem test_hyp_AlterStreamEffect :
    let a : Alteration :=
      { fillPolicy := none, fillWord := none, f := none, k := none, silence := some 5, ageLimit := some 0, options := none }
    let s (st : Stream) (p : Page) : State :=
      requesting (with3p st { PageState.reset with current := some p }) (.alterStream 3 a)
    ((s .reset page).requested ref (.alterStream 3 a) ∧ ((s .reset page).stream 3).state = .closed)
    ∧ ((s { openIn .draining with closing := some closing } page).stream 3).closing ≠ none
    ∧ (∀ x ∈ [StreamState.acquiring, .running, .stalled, .cut],
        (s (openIn x) page).requested ref (.alterStream 3 a) ∧ ((s (openIn x) page).stream 3).state = x
          ∧ ((s (openIn x) page).stream 3).closing = none)
    ∧ (((s (openIn .cut) page).page 3).current = some page ∧ 1 ≤ page.count ∧ ¬ 1 ≤ ({ page with count := 0 } : Page).count)
    ∧ (a.silence = some 5 ∧ a.ageLimit = some 0) := by
  unfold State.requested; decide +kernel

/-- Supplies of 15 and of 16 addresses with one more asked for; a flush with a page and without. -/
theorem test_hyp_PageOrders :
    let s (st : Stream) (p : PageState) (o : Order) : State := requesting (with3p st p) o
    let attach : Order := .attachPages 3 [64]
    let some' (k : Nat) : PageState := { PageState.reset with supply := List.replicate k 64 }
    ((s .reset .reset attach).requested ref attach ∧ ((s .reset .reset attach).stream 3).state = .closed)
    ∧ (∀ k ∈ [15, 16], (s (openIn .running) (some' k) attach).requested ref attach
        ∧ ((s (openIn .running) (some' k) attach).stream 3).state ≠ .closed
        ∧ ((s (openIn .running) (some' k) attach).stream 3).closing = none)
    ∧ ((s (openIn .running) (some' 15) attach).page 3).supply.length + [64#32].length ≤ 16
    ∧ (((s (openIn .running) (some' 16) attach).page 3).supply.length ≤ 16
        ∧ 16 < ((s (openIn .running) (some' 16) attach).page 3).supply.length + [64#32].length)
    ∧ ((s .reset .reset (.flushPage 3)).requested ref (.flushPage 3)
        ∧ ((s (openIn .running) .reset (.flushPage 3)).page 3).current = none
        ∧ (s (openIn .running) .reset (.flushPage 3)).requested ref (.flushPage 3)
        ∧ ((s (openIn .running) { PageState.reset with current := some page } (.flushPage 3)).page 3).current = some page
        ∧ (s (openIn .running) { PageState.reset with current := some page } (.flushPage 3)).requested ref
            (.flushPage 3)) := by
  unfold State.requested; decide +kernel

/-! ### Witnesses: the write lane -/

/-- ACTIVE with stream 3's queue and pages. -/
def laneOf (queue : List QueueRecord) (closing : Option Closing) (p : PageState) : State :=
  with3p { openIn .running with queue := queue, closing := closing } p

theorem test_hyp_LaneRoundRobin :
    let cp (issued : Bool) : ClosingPage := { page := page, reason := .age, flushWaits := false, issued := issued }
    (({ PageState.reset with closingPage := some (cp true) } : PageState).closingPage = some (cp true))
    ∧ ({ closing with phase := ClosePhase.returnDue } : Closing).phase = .returnDue
    ∧ ({ closing with phase := ClosePhase.returning } : Closing).phase = .returning
    ∧ (openIn .running).queue = []
    ∧ PageState.reset.closingPage = none ∧ (openIn .running).closing = none
    ∧ (laneOf [record] none { PageState.reset with supply := [64] }).laneChoice = some (3, .record)
    ∧ active.laneChoice = none
    ∧ ({ active with lane := { active.lane with op := some (.giveBack 3) } } : State).lane.op ≠ none := by decide +kernel

/-- A page with the room the record needs to the byte, one with four bytes less, and a supply with no current page. -/
theorem test_hyp_RecordOperationBegins :
    let pages (used : Nat) (supply : List Word) : PageState :=
      { PageState.reset with current := some { page with used := used }, supply := supply }
    let none' : PageState := { PageState.reset with supply := [64, 128] }
    (∀ p ∈ [pages 1000 [], pages 1004 [64], none'],
      (laneOf [record] none p).laneServes 3 .record ∧ ((laneOf [record] none p).stream 3).queue = record :: []
        ∧ (laneOf [record] none p).page 3 = p)
    ∧ 1000 + recordSize record.count = pageBytes config.sizeCode ∧ pageBytes config.sizeCode < 1004 + recordSize record.count
    ∧ none'.current = none ∧ none'.supply = 64 :: [128] := by
  unfold State.laneServes; decide +kernel

/-- A lane operation of stream 3 in flight, its last transaction's write. -/
def laneBusy (st : Stream) (p : PageState) (op : LaneOp) (role : TxRole) : State :=
  flying { with3p st p with lane := { active.lane with op := some op } } (writeTx role)

/-- The page's first record and a later one; a drain's last record; a closing sequence that waits. -/
theorem test_hyp_RecordWriteCompletes :
    let s (x : StreamState) (c : Option Closing) (p : PageState) : State :=
      laneBusy { openIn x with queue := [record], closing := c } p (.record 3 0) (.recordPart true)
    let now (k : Nat) : PageState := { PageState.reset with current := some { page with count := k } }
    let cp : ClosingPage := { page := page, reason := .age, flushWaits := false, issued := false }
    (∀ x c p, (s x c p).flying (writeTx (.recordPart true)) ∧ (s x c p).lane.op = some (.record 3 0)
      ∧ ((s x c p).stream 3).queue = record :: [] ∧ ((s x c p).stream 3).state = x ∧ ((s x c p).stream 3).closing = c
      ∧ (s x c p).page 3 = p ∧ (∀ y ∈ ((s x c p).stream 3).window, y = none))
    ∧ (writeTx (.recordPart true)).body.data.length ≤ 64
    ∧ ((now 0).current = some { page with count := 0 } ∧ (now 10).current = some page ∧ config.ageLimit ≠ 0)
    ∧ closing.phase = .waitLane
    ∧ (({ PageState.reset with closingPage := some cp } : PageState).current = none
        ∧ ({ PageState.reset with closingPage := some cp } : PageState).closingPage = some cp)
    ∧ (let more := laneBusy { openIn .draining with queue := [record, record] } (now 0) (.record 3 0) (.recordPart true)
       let held := laneBusy { openIn .draining with queue := [record], window := [some (burst 0)] } (now 0) (.record 3 0)
         (.recordPart true)
       more.flying (writeTx (.recordPart true)) ∧ (more.stream 3).queue = record :: [record]
         ∧ held.flying (writeTx (.recordPart true)) ∧ some (burst 0) ∈ (held.stream 3).window) := by
  refine ⟨fun x c p => ⟨flying_of _ _ rfl, rfl, rfl, rfl, rfl, rfl, ?_⟩, by decide, ⟨rfl, rfl, by decide⟩, rfl, ⟨rfl, rfl⟩,
    ⟨flying_of _ _ rfl, rfl, flying_of _ _ rfl, List.mem_singleton.2 rfl⟩⟩
  intro y hy
  exact (List.mem_replicate.1 hy).2

/-- A close to issue; a close that completes with no closing sequence and with one at either step, a waiting FLUSH PAGE; the
FULL close of a record operation. -/
theorem test_hyp_PageCloses :
    let cp (flush issued : Bool) : ClosingPage := { page := page, reason := .flush, flushWaits := flush, issued := issued }
    let pages (flush issued : Bool) : PageState := { PageState.reset with closingPage := some (cp flush issued) }
    let s (c : Option Closing) (flush : Bool) (a : Activity) : State :=
      let u := laneBusy { openIn .draining with closing := c } (pages flush true) (.pageClose 3) .pageState
      { u with walker := { u.walker with activity := a } }
    ((laneOf [] none (pages false false)).laneServes 3 .close
      ∧ ((laneOf [] none (pages false false)).page 3).closingPage = some (cp false false))
    ∧ (∀ c f a, (s c f a).flying (writeTx .pageState) ∧ ((s c f a).page 3).closingPage = some (cp f true)
        ∧ (s c f a).lane.op = some (.pageClose 3) ∧ ((s c f a).stream 3).closing = c ∧ (s c f a).walker.activity = a)
    ∧ ((writeTx .pageState).body.data.length ≤ 64 ∧ (cp true true).flushWaits = true ∧ (cp false true).flushWaits = false
        ∧ closing.phase = .waitLane ∧ ({ closing with phase := ClosePhase.waitClose } : Closing).phase = .waitClose)
    ∧ (let full := laneBusy { openIn .running with queue := [record] } { pages false true with supply := [64] }
          (.record 3 0) .pageState
       full.flying (writeTx .pageState) ∧ full.lane.op = some (.record 3 0) ∧ (full.page 3).supply = 64 :: []
         ∧ (full.page 3).current = none ∧ (full.stream 3).queue = record :: []) := by
  refine ⟨?_, fun c f a => ⟨⟨rfl, 0, rfl⟩, rfl, rfl, rfl, rfl⟩, by decide +kernel, ⟨rfl, 0, rfl⟩, rfl, rfl, rfl, rfl⟩
  unfold State.laneServes; decide +kernel

theorem test_hyp_ReturnGivesSupplyBack :
    let c : Closing := { closing with phase := .returnDue }
    let p : PageState := { PageState.reset with supply := [64, 128] }
    let busy := laneBusy { openIn .draining with closing := some c } p (.giveBack 3) (.pageReturn true)
    ((laneOf [] (some c) p).laneServes 3 .giveBack ∧ ((laneOf [] (some c) p).stream 3).closing = some c)
    ∧ (busy.flying (writeTx (.pageReturn true)) ∧ busy.lane.op = some (.giveBack 3)
        ∧ (busy.stream 3).closing = some c ∧ (writeTx (.pageReturn true)).body.data.length ≤ 64) := by
  refine ⟨?_, ⟨rfl, 0, rfl⟩, rfl, rfl, by decide⟩
  unfold State.laneServes; decide +kernel

/-! ### Witnesses: tallies, formats, invariants -/

/-- A tally-pending set of one member, after a record written last. -/
def pendingAt (last i : Fin 65) (m : Marks) : State :=
  { active with tally := { active.tally with last := last, pending := active.tally.pending.set i.val (some m) i.isLt } }

/-- Nothing pending; a stream's record and the device record, with and without a zero mark, each the nearest; a write that
completes with no WRITE TALLY, with one whose last marked record this is, and with another marked record. -/
theorem test_hyp_TallySnapshotAndWrite :
    let m (z : Bool) : Marks := { zero := z, order := true }
    let w : TallyWrite := { index := 64, orderMark := true, todo := [] }
    let s (a : Activity) (u : State) : State :=
      flying { u with tally := { u.tally with write := some w }, walker := { u.walker with activity := a } }
        (writeTx .tallyEven)
    (active.global.working = true ∧ active.tally.write = none ∧ ∀ i : Fin 65, active.tally.pending[i] = none)
    ∧ ((3 : Fin 65) = (3 : StreamId).castSucc)
    ∧ (∀ i ∈ [(3 : Fin 65), 64], ∀ z ∈ [true, false],
        (pendingAt i i (m z)).tally.write = none ∧ (pendingAt i i (m z)).tally.pending[i] = some (m z)
        ∧ ∀ j : Fin 65, (pendingAt i i (m z)).tally.pending[j] ≠ none →
            tallyDistance (pendingAt i i (m z)).tally.last i ≤ tallyDistance (pendingAt i i (m z)).tally.last j)
    ∧ (∀ a, (s a active).flying (writeTx .tallyEven) ∧ (s a active).tally.write = some w ∧ (s a active).walker.activity = a)
    ∧ (w.orderMark = true ∧ (writeTx .tallyEven).body.data.length ≤ 64)
    ∧ (∀ i : Fin 65, (s .idle active).tally.pending[i] = none)
    ∧ (s (.waitTally ref 1) (pendingAt 0 3 (m false))).tally.pending[(3 : Fin 65)] = some (m false) :=
  ⟨by decide +kernel, by decide, by decide +kernel, fun _ => ⟨⟨rfl, 0, rfl⟩, rfl, rfl⟩, by decide, by decide +kernel,
    by decide +kernel⟩

/-- A record with its buffer's samples, and an empty one. -/
theorem test_hyp_FormatSizes :
    let buffers : Vector (List Half) 512 := Vector.replicate 512 [1, 2]
    (record.content = .buffer 9 ∧ buffers[(9 : BufferId)].length = record.count)
    ∧ (({ record with content := .empty, count := 0 } : QueueRecord).content = .empty
        ∧ ({ record with content := .empty, count := 0 } : QueueRecord).count = 0) := by decide +kernel

theorem test_hyp_StepKeepsDeadlineLaw : lawful3.deadlinesUnique ∧ lawful3.lawful ∧ ∃ t, step lawful3 = .next t :=
  ⟨lawful3_deadlineLaw.unique, lawful3_lawful, _, rfl⟩

theorem test_hyp_StepKeepsWindowLaw :
    lawful3.lawful ∧ (∃ t, step lawful3 = .next t)
      ∧ (lawful3.stream 3).window[1]? = some (some { burst 1 with buffer := 0 }) :=
  ⟨lawful3_lawful, ⟨_, rfl⟩, rfl⟩

theorem test_hyp_StepKeepsClosingLaw : lawful3.lawful ∧ ∃ t, step lawful3 = .next t := ⟨lawful3_lawful, _, rfl⟩

theorem test_hyp_StepKeepsStoreLaw : lawful3.lawful ∧ ∃ t, step lawful3 = .next t := ⟨lawful3_lawful, _, rfl⟩

theorem test_hyp_StepKeepsMemoryCanonical : State.reset.memoryCanonical ∧ ∃ t, step State.reset = .next t :=
  ⟨rfl, _, rfl⟩

theorem test_hyp_StepKeepsCapacities :
    (State.reset.straysBounded ∧ State.reset.supplyBounded ∧ State.reset.queueBounded ∧ State.reset.earlyRunBounded
      ∧ State.reset.restsOutsideWork ∧ ∃ t, step State.reset = .next t)
    ∧ (let s := taking .running (some { tag := 0xAB, mask := 1, stream := 3 }) [] 0 0 (frame 1 false false)
       s.routesUnique ∧ ∃ t, step s = .next t)
    ∧ (let s := flying { State.reset with global := .starting, root := 0x40 }
         { addr := 0x40, body := .read 32, role := .rootRead }
       s.restsOutsideWork ∧ ∃ t, step s = .next t) := by
  refine ⟨⟨by unfold State.straysBounded; decide +kernel, by unfold State.supplyBounded; decide +kernel,
    by unfold State.queueBounded; decide +kernel, by unfold State.earlyRunBounded; decide +kernel,
    ⟨fun _ => rfl, GlobalState.noConfusion⟩, _, rfl⟩,
    ⟨taking_routesUnique _ _ _ _ _ _, _, rfl⟩, ⟨GlobalState.noConfusion, fun _ => ⟨0, rfl⟩⟩, _, rfl⟩

/-- Both links OFF, and a link in a frame of one byte. -/
theorem test_hyp_StepKeepsLinksBounded :
    let s := withA { Receiver.reset with state := .up, assembly := .inFrame, bytes := [7], check := crcByte 0xFFFFFFFF#32 7 }
    State.reset.linksBounded ∧ (∃ t, step State.reset = .next t) ∧ s.linksBounded ∧ ∃ t, step s = .next t := by
  unfold State.linksBounded Receiver.bounded
  exact ⟨by decide +kernel, ⟨_, rfl⟩, by decide +kernel, _, rfl⟩

end Sys2Proof.Tests
end

section
/-! SUPPORT. What the operations of the part leave alone: `Beside` is a change beside the streams, `Only` a change of one
stream and its pages. Both are reflexive and compose, so a command's frame is read off its text, operation by operation. -/

namespace Sys2Proof.Machine

open Sys2Proof

/-! ### Changes beside the streams -/

/-- A change that leaves every stream, page state and buffer and the lane's operation as they are. It neither enters IDLE
or STARTING nor, but for a checked order, passes on an OPEN STREAM, and it keeps the bounds of the Acceptance Unit. -/
structure State.Beside (s t : State) : Prop where
  rest : t.global = .idle ∨ t.global = .starting → t.global = s.global
  streams : t.streams = s.streams
  pages : t.pages = s.pages
  store : t.store = s.store
  laneOp : t.lane.op = s.lane.op
  request : ∀ ref n c, t.walker.activity = .request ref (.openStream n c) →
    s.walker.activity = .request ref (.openStream n c) ∨ c.sized
  strays : s.straysBounded → t.straysBounded
  routes : s.routesUnique → t.routesUnique

theorem State.Beside.refl (s : State) : s.Beside s where
  rest := fun _ => rfl
  streams := rfl
  pages := rfl
  store := rfl
  laneOp := rfl
  request := fun _ _ _ h => .inl h
  strays := id
  routes := id

theorem State.Beside.trans {s t u : State} (h : s.Beside t) (k : t.Beside u) : s.Beside u where
  rest := fun e => by
    have e' := k.rest e
    exact e'.trans (h.rest (e' ▸ e))
  streams := k.streams.trans h.streams
  pages := k.pages.trans h.pages
  store := k.store.trans h.store
  laneOp := k.laneOp.trans h.laneOp
  request := fun ref n c e => (k.request ref n c e).elim (h.request ref n c) .inr
  strays := k.strays ∘ h.strays
  routes := k.routes ∘ h.routes

/-- The usual case: the global state, the walker's activity, the Stray List and the Route Table stand too. -/
theorem State.Beside.of_eq {s t : State} (global : t.global = s.global) (streams : t.streams = s.streams)
    (pages : t.pages = s.pages) (store : t.store = s.store) (laneOp : t.lane.op = s.lane.op)
    (activity : t.walker.activity = s.walker.activity) (strays : t.acceptance.strays = s.acceptance.strays)
    (routes : t.acceptance.routes = s.acceptance.routes) : s.Beside t where
  rest := fun _ => global
  streams := streams
  pages := pages
  store := store
  laneOp := laneOp
  request := fun _ _ _ h => .inl (activity ▸ h)
  strays := fun h => by unfold State.straysBounded; rw [strays]; exact h
  routes := fun h => by unfold State.routesUnique; rw [routes]; exact h

theorem State.beside_cancel (s : State) (n : StreamId) (k : DeadlineKind) : s.Beside (s.cancel n k) := by
  apply State.Beside.of_eq <;> rfl

theorem State.beside_arm (s : State) (n : StreamId) (k : DeadlineKind) (due : Word) : s.Beside (s.arm n k due) := by
  apply State.Beside.of_eq <;> rfl

theorem State.beside_raise (s : State) (b : BitVec 7) : s.Beside (s.raise b) := by
  apply State.Beside.of_eq <;> rfl

theorem State.beside_raiseIf (s : State) (c : Bool) (b : BitVec 7) : s.Beside (s.raiseIf c b) := by
  apply State.Beside.of_eq <;> simp

theorem State.beside_alarm (s : State) (n : StreamId) : s.Beside (s.alarm n) := s.beside_raiseIf _ _

theorem State.beside_markDevice (s : State) : s.Beside s.markDevice := by
  apply State.Beside.of_eq <;> rfl

theorem State.beside_join (s : State) (i : Fin 65) : s.Beside (s.join i) := by
  apply State.Beside.of_eq <;> rfl

theorem State.beside_joinChanged (s : State) : s.Beside s.joinChanged := by
  apply State.Beside.of_eq <;> simp

theorem State.beside_land (s : State) (tx : Tx) : s.Beside (s.land tx) := by
  apply State.Beside.of_eq <;> rfl

/-- The walker changes, and does not pass on an OPEN STREAM that it had not passed on before. -/
theorem State.beside_setWalker (s : State) (w : Walker)
    (h : ∀ ref n c, w.activity = .request ref (.openStream n c) → s.walker.activity = w.activity) :
    s.Beside (s.setWalker w) where
  rest := fun _ => rfl
  streams := rfl
  pages := rfl
  store := rfl
  laneOp := rfl
  request := fun ref n c e => .inl ((h ref n c e).trans e)
  strays := id
  routes := id

theorem State.beside_setWalker_same (s : State) (w : Walker) (h : w.activity = s.walker.activity) :
    s.Beside (s.setWalker w) := s.beside_setWalker w (fun _ _ _ _ => h.symm)

theorem State.beside_setActivity (s : State) (a : Activity) (h : ∀ ref n c, a ≠ .request ref (.openStream n c)) :
    s.Beside (s.setActivity a) := by
  have e : s.setActivity a = s.setWalker { s.walker with activity := a } := rfl
  rw [e]
  exact s.beside_setWalker _ (fun ref n c e => absurd e (h ref n c))

theorem State.beside_answer (s : State) (ref : RecordRef) (code : ResultCode) (v : Word) :
    s.Beside (s.answer ref code v) := s.beside_setActivity _ (by simp)

theorem State.LinkFrame.beside {l : LinkId} {s t : State} (h : State.LinkFrame l s t) : s.Beside t :=
  .of_eq h.global h.streams h.pages h.store (by rw [h.lane]) (by rw [h.walker]) (by rw [h.acceptance])
    (by rw [h.acceptance])

theorem State.beside_armSilence (s : State) (n : StreamId) (t : Word) : s.Beside (s.armSilence n t) := by
  unfold State.armSilence
  split
  · exact .refl s
  · exact s.beside_arm n _ _

theorem State.beside_silenceAfter (s : State) (n : StreamId) (p : Half) (t : Word) :
    s.Beside (s.silenceAfter n p t) := by
  unfold State.silenceAfter
  split
  · exact .refl s
  · exact s.beside_arm n _ _

theorem State.beside_abandonFlight (s : State) : s.Beside s.abandonFlight := by
  rw [s.abandonFlight_frame]
  apply State.Beside.of_eq <;> rfl

theorem State.beside_enterFaulted (s : State) (r : FaultReason) (a : Word) : s.Beside (s.enterFaulted r a) where
  rest := by simp [State.enterFaulted, State.raise]
  streams := s.beside_abandonFlight.streams
  pages := s.beside_abandonFlight.pages
  store := s.beside_abandonFlight.store
  laneOp := s.beside_abandonFlight.laneOp
  request := s.beside_abandonFlight.request
  strays := s.beside_abandonFlight.strays
  routes := s.beside_abandonFlight.routes

/-! ### Changes of one stream -/

/-- A change of one stream and its pages. It leaves the other streams, their pages and what the lane does for them as they
are, and keeps the stream's capacities: Q records, an early run of 15, 16 supply addresses. -/
structure State.Only (n : StreamId) (s t : State) : Prop where
  rest : t.global = .idle ∨ t.global = .starting → t.global = s.global
  stream : ∀ m, m ≠ n → t.stream m = s.stream m
  page : ∀ m, m ≠ n → t.page m = s.page m
  writing : ∀ m, m ≠ n → t.recordInFlight m = s.recordInFlight m
  giving : ∀ m, m ≠ n → t.lane.op = some (.giveBack m) → s.lane.op = some (.giveBack m)
  request : ∀ ref m c, t.walker.activity = .request ref (.openStream m c) →
    s.walker.activity = .request ref (.openStream m c) ∨ c.sized
  strays : s.straysBounded → t.straysBounded
  routes : s.routesUnique → t.routesUnique
  queue : (s.stream n).queue.length ≤ (s.stream n).config.q → (t.stream n).queue.length ≤ (t.stream n).config.q
  earlyRun : (s.stream n).earlyRun ≤ 15 → (t.stream n).earlyRun ≤ 15
  supply : (s.page n).supply.length ≤ 16 → (t.page n).supply.length ≤ 16

theorem State.recordInFlight_congr {s t : State} (h : t.lane.op = s.lane.op) (n : StreamId) :
    t.recordInFlight n = s.recordInFlight n := by
  unfold State.recordInFlight
  rw [h]

theorem State.Beside.stream {s t : State} (h : s.Beside t) (m : StreamId) : t.stream m = s.stream m := by
  unfold State.stream
  rw [h.streams]

theorem State.Beside.page {s t : State} (h : s.Beside t) (m : StreamId) : t.page m = s.page m := by
  unfold State.page
  rw [h.pages]

theorem State.Beside.only {s t : State} (h : s.Beside t) (n : StreamId) : State.Only n s t where
  rest := h.rest
  stream := fun m _ => h.stream m
  page := fun m _ => h.page m
  writing := fun m _ => State.recordInFlight_congr h.laneOp m
  giving := fun m _ e => h.laneOp ▸ e
  request := h.request
  strays := h.strays
  routes := h.routes
  queue := by rw [h.stream n]; exact id
  earlyRun := by rw [h.stream n]; exact id
  supply := by rw [h.page n]; exact id

theorem State.Only.refl (n : StreamId) (s : State) : State.Only n s s := (State.Beside.refl s).only n

theorem State.Only.trans {n : StreamId} {s t u : State} (h : State.Only n s t) (k : State.Only n t u) :
    State.Only n s u where
  rest := fun e => by
    have e' := k.rest e
    exact e'.trans (h.rest (e' ▸ e))
  stream := fun m hm => (k.stream m hm).trans (h.stream m hm)
  page := fun m hm => (k.page m hm).trans (h.page m hm)
  writing := fun m hm => (k.writing m hm).trans (h.writing m hm)
  giving := fun m hm e => h.giving m hm (k.giving m hm e)
  request := fun ref m c e => (k.request ref m c e).elim (h.request ref m c) .inr
  strays := k.strays ∘ h.strays
  routes := k.routes ∘ h.routes
  queue := k.queue ∘ h.queue
  earlyRun := k.earlyRun ∘ h.earlyRun
  supply := k.supply ∘ h.supply

theorem State.Only.beside {n : StreamId} {s t u : State} (h : State.Only n s t) (k : t.Beside u) : State.Only n s u :=
  h.trans (k.only n)

theorem State.only_setStream (s : State) (n : StreamId) (st : Stream)
    (queue : (s.stream n).queue.length ≤ (s.stream n).config.q → st.queue.length ≤ st.config.q)
    (earlyRun : (s.stream n).earlyRun ≤ 15 → st.earlyRun ≤ 15) : State.Only n s (s.setStream n st) where
  rest := fun _ => rfl
  stream := fun m hm => State.stream_setStream_ne s n m st hm
  page := fun _ _ => rfl
  writing := fun _ _ => rfl
  giving := fun _ _ e => e
  request := fun _ _ _ e => .inl e
  strays := id
  routes := id
  queue := by simpa using queue
  earlyRun := by simpa using earlyRun
  supply := id

theorem State.only_modStream (s : State) (n : StreamId) (f : Stream → Stream)
    (queue : (s.stream n).queue.length ≤ (s.stream n).config.q →
      (f (s.stream n)).queue.length ≤ (f (s.stream n)).config.q)
    (earlyRun : (s.stream n).earlyRun ≤ 15 → (f (s.stream n)).earlyRun ≤ 15) : State.Only n s (s.modStream n f) :=
  s.only_setStream n _ queue earlyRun

/-- The usual case: queue, capacity and early run stand. -/
theorem State.only_modStream_same (s : State) (n : StreamId) (f : Stream → Stream)
    (queue : (f (s.stream n)).queue = (s.stream n).queue) (config : (f (s.stream n)).config = (s.stream n).config)
    (earlyRun : (f (s.stream n)).earlyRun = (s.stream n).earlyRun) : State.Only n s (s.modStream n f) :=
  s.only_modStream n f (by rw [queue, config]; exact id) (by rw [earlyRun]; exact id)

theorem State.only_setPage (s : State) (n : StreamId) (p : PageState)
    (supply : (s.page n).supply.length ≤ 16 → p.supply.length ≤ 16) : State.Only n s (s.setPage n p) where
  rest := fun _ => rfl
  stream := fun _ _ => rfl
  page := fun m hm => State.page_setPage_ne s n m p hm
  writing := fun _ _ => rfl
  giving := fun _ _ e => e
  request := fun _ _ _ e => .inl e
  strays := id
  routes := id
  queue := id
  earlyRun := id
  supply := by simpa using supply

theorem State.only_modPage_same (s : State) (n : StreamId) (f : PageState → PageState)
    (supply : (f (s.page n)).supply = (s.page n).supply) : State.Only n s (s.modPage n f) :=
  s.only_setPage n _ (by rw [supply]; exact id)

/-- A change of the Burst Store is a change of any one stream's account. -/
theorem State.only_store (s : State) (n : StreamId) (b : BurstStore) : State.Only n s { s with store := b } where
  rest := fun _ => rfl
  stream := fun _ _ => rfl
  page := fun _ _ => rfl
  writing := fun _ _ => rfl
  giving := fun _ _ e => e
  request := fun _ _ _ e => .inl e
  strays := id
  routes := id
  queue := id
  earlyRun := id
  supply := id

theorem State.only_freeBuffers (s : State) (n : StreamId) (bs : List BufferId) : State.Only n s (s.freeBuffers bs) :=
  s.only_store n _

theorem State.only_filled (s : State) (n : StreamId) (b : BufferId) (pool : List BufferId) (x : List Half) :
    State.Only n s (s.filled b pool x) := s.only_store n _

theorem State.only_changeState (s : State) (n : StreamId) (target : StreamState) :
    State.Only n s (s.changeState n target) := by
  unfold State.changeState
  split
  · exact .refl n s
  · exact (s.only_modStream_same n _ rfl rfl rfl).beside (State.beside_join _ _)

theorem State.only_setSupply (s : State) (n : StreamId) (l : List Word)
    (supply : (s.page n).supply.length ≤ 16 → l.length ≤ 16) : State.Only n s (s.setSupply n l) :=
  State.setSupply_eq s n l ▸ (s.only_setPage n _ supply).trans (State.only_setStream _ n _ (by simp) (by simp))

/-- The lane turns to another operation of the stream, or from one to none. -/
theorem State.only_lane (s : State) (n : StreamId) (lane : Lane) (was : ∀ o, s.lane.op = some o → o.stream = n)
    (now : ∀ o, lane.op = some o → o.stream = n) : State.Only n s { s with lane := lane } := by
  have quiet (t : State) (h : ∀ o, t.lane.op = some o → o.stream = n) (m : StreamId) (hm : m ≠ n) :
      t.recordInFlight m = false := by
    rw [Bool.eq_false_iff]
    intro hr
    obtain ⟨_, e⟩ := (t.recordInFlight_iff m).1 hr
    exact hm (h _ e)
  exact {
    rest := fun _ => rfl
    stream := fun _ _ => rfl
    page := fun _ _ => rfl
    writing := fun m hm => (quiet { s with lane := lane } now m hm).trans (quiet s was m hm).symm
    giving := fun m hm e => absurd (now _ e) hm
    request := fun _ _ _ e => .inl e
    strays := id
    routes := id
    queue := id
    earlyRun := id
    supply := id }

theorem State.only_laneFree (s : State) (n : StreamId) (was : ∀ o, s.lane.op = some o → o.stream = n) :
    State.Only n s s.laneFree := s.only_lane n _ was (by simp)

theorem State.only_beginOp (s : State) (n : StreamId) (op : LaneOp) (txs : List Tx)
    (was : ∀ o, s.lane.op = some o → o.stream = n) (now : op.stream = n) : State.Only n s (s.beginOp n op txs) :=
  s.only_lane n _ was (by rintro o ⟨⟩; exact now)

/-! ### The frame of the flushes and of the closing sequence -/

theorem Stream.countFlushed_frame (k : Nat) (st : Stream) :
    (st.countFlushed k).queue = st.queue ∧ (st.countFlushed k).config = st.config
      ∧ (st.countFlushed k).earlyRun = st.earlyRun := by simp [Stream.countFlushed_eq]

theorem State.only_flushWindow (s : State) (n : StreamId) : State.Only n s (s.flushWindow n) := by
  obtain ⟨hq, hc, he⟩ := Stream.countFlushed_frame (heldBursts (s.stream n).window).length
    { s.stream n with window := (s.stream n).window.map (fun _ => none) }
  exact (s.only_modStream_same n _ hq hc he).trans (State.only_freeBuffers _ n _)

theorem State.only_flushQueue (s : State) (n : StreamId) : State.Only n s (s.flushQueue n) := by
  refine State.Only.trans (s.only_modStream n _ (fun h => ?_) ?_) (State.only_freeBuffers _ n _)
  all_goals simp only [Stream.countFlushed_eq]
  · exact (List.length_take_le' _ _).trans h
  · exact id

theorem State.only_beginPageClose (s : State) (n : StreamId) (r : CloseReason) (w i : Bool) :
    State.Only n s (s.beginPageClose n r w i) := by
  unfold State.beginPageClose
  split
  · exact (s.only_modPage_same n _ rfl).beside (State.beside_cancel _ _ _)
  · exact .refl n s

theorem Walker.closeReported_activity (w : Walker) (n : StreamId) (k : Nat) :
    (w.closeReported n k).activity = w.activity ∨ ∃ ref r, (w.closeReported n k).activity = .finish ref r := by
  have hd (r : Result) : (w.completeDrain n r).activity = w.activity := by
    unfold Walker.completeDrain
    split <;> rfl
  unfold Walker.closeReported
  dsimp only
  split
  · exact .inr ⟨_, _, rfl⟩
  · exact .inl (hd _)

theorem State.beside_closeReported (s : State) (n : StreamId) (k : Nat) :
    s.Beside (s.setWalker (s.walker.closeReported n k)) := by
  apply s.beside_setWalker
  intro ref m c e
  obtain h | ⟨ref', r, h⟩ := s.walker.closeReported_activity n k
  · exact h.symm
  · exact absurd (h.symm.trans e) (by simp)

theorem State.only_closeStep4 (s : State) (n : StreamId) (k : Nat) : State.Only n s (s.closeStep4 n k) :=
  (((s.only_store n _).trans (State.only_modStream_same _ n _ rfl rfl rfl)).trans
    (State.only_changeState _ n _)).beside (State.beside_closeReported _ n k)

theorem State.only_closeStep3 (s : State) (n : StreamId) : State.Only n s (s.closeStep3 n) := by
  unfold State.closeStep3
  split
  · exact s.only_closeStep4 n 0
  · exact s.only_modStream_same n _ rfl rfl rfl

theorem State.only_closeStep2 (s : State) (n : StreamId) (r : CloseReason) : State.Only n s (s.closeStep2 n r) := by
  unfold State.closeStep2
  dsimp only
  split
  · exact (s.only_modPage_same n _ rfl).trans (State.only_modStream_same _ n _ rfl rfl rfl)
  · exact (s.only_beginPageClose n r _ _).trans (State.only_modStream_same _ n _ rfl rfl rfl)
  · exact (s.only_modStream_same n _ rfl rfl rfl).trans (State.only_closeStep3 _ n)

theorem State.only_beginClosing (s : State) (n : StreamId) (r : CloseReason) :
    State.Only n s (s.beginClosing n r) := by
  unfold State.beginClosing
  dsimp only
  split
  · exact s.only_modStream_same n _ rfl rfl rfl
  · exact (s.only_modStream_same n _ rfl rfl rfl).trans (State.only_closeStep2 _ n r)

theorem State.only_testDrained (s : State) (n : StreamId) : State.Only n s (s.testDrained n) := by
  unfold State.testDrained
  dsimp only
  split
  · exact s.only_beginClosing n .close
  · exact .refl n s

theorem State.only_laneDone (s : State) (n : StreamId) : State.Only n s (s.laneDone n) := by
  unfold State.laneDone
  split
  · split
    · exact s.only_closeStep2 n _
    all_goals exact .refl n s
  · exact .refl n s

theorem State.only_closeNow (s : State) (n : StreamId) (r : CloseReason) : State.Only n s (s.closeNow n r) :=
  (((((s.only_flushWindow n).trans (State.only_flushQueue _ n)).beside (State.beside_cancel _ n _)).beside
    (State.beside_cancel _ n _)).trans (State.only_changeState _ n _)).trans (State.only_beginClosing _ n r)

end Sys2Proof.Machine
end

section
/-! SUPPORT. The commands that change nothing of any stream, and the invariants of the part: what a property must be kept
by, so that every step keeps it. -/

namespace Sys2Proof.Machine

open Sys2Proof

/-! ### The commands beside the streams -/

/-- The outcome is a change beside the streams, after which the stop sequence may go on. -/
def State.staysBeside (s : State) (o : Host.Outcome State Fault Refusal) : Prop :=
  ∃ u, s.Beside u ∧ (o = .next u ∨ o = .next u.advanceStop)

theorem State.Beside.next {s u : State} (h : s.Beside u) : s.staysBeside (.next u) := ⟨u, h, .inl rfl⟩

theorem State.Beside.advance {s u : State} (h : s.Beside u) : s.staysBeside (.next u.advanceStop) := ⟨u, h, .inr rfl⟩

theorem State.staysBeside_self (s : State) : s.staysBeside (.next s) := (State.Beside.refl s).next

/-! The links. -/

theorem State.linkFrame_idleInHunt (s : State) (l : LinkId) : State.LinkFrame l s (s.idleInHunt l) := by
  unfold State.idleInHunt
  split
  · exact s.linkFrame_enterUp l
  · exact s.linkFrame_setRx l _

theorem State.linkFrame_setViolationRun (s : State) (l : LinkId) (k : Nat) :
    State.LinkFrame l s (s.setViolationRun l k) := s.linkFrame_setRx l _

theorem State.linkFrame_frameOutside (s : State) (l : LinkId) : State.LinkFrame l s (s.frameOutside l) :=
  s.linkFrame_setRx l _

theorem State.linkFrame_beginFrame (s : State) (l : LinkId) : State.LinkFrame l s (s.beginFrame l) :=
  s.linkFrame_setRx l _

theorem State.linkFrame_idleInUp (s : State) (l : LinkId) : State.LinkFrame l s (s.idleInUp l) := by
  have h := s.linkFrame_setViolationRun l 0
  unfold State.idleInUp
  dsimp only
  split
  · exact h
  · exact (h.trans (State.linkFrame_formatError _ l)).trans (State.linkFrame_frameOutside _ l)
  · exact h.trans (State.linkFrame_frameOutside _ l)

theorem State.linkFrame_startInUp (s : State) (l : LinkId) : State.LinkFrame l s (s.startInUp l) := by
  have h := s.linkFrame_setViolationRun l 0
  unfold State.startInUp
  dsimp only
  split
  · exact h.trans (State.linkFrame_beginFrame _ l)
  · exact h.trans (State.linkFrame_beginFrame _ l)
  · exact (h.trans (State.linkFrame_formatError _ l)).trans (State.linkFrame_beginFrame _ l)

theorem State.linkFrame_dataInUp (s : State) (l : LinkId) (b : Byte) : State.LinkFrame l s (s.dataInUp l b) := by
  have h := s.linkFrame_setViolationRun l 0
  unfold State.dataInUp
  split
  · exact s.linkFrame_violation l
  · exact h.trans (State.linkFrame_appendByte _ l b)
  · exact h

theorem State.linkFrame_endInUp (s : State) (l : LinkId) : State.LinkFrame l s (s.endInUp l) := by
  have h := s.linkFrame_setViolationRun l 0
  unfold State.endInUp
  split
  · exact s.linkFrame_violation l
  · exact h.trans (State.linkFrame_endFrame _ l)
  · exact h.trans (State.linkFrame_frameOutside _ l)

theorem State.linkFrame_violationInUp (s : State) (l : LinkId) : State.LinkFrame l s (s.violationInUp l) := by
  unfold State.violationInUp
  split
  · exact s.linkFrame_violation l
  · exact s.linkFrame_violation l
  · exact ((s.linkFrame_formatError l).trans (State.linkFrame_frameOutside _ l)).trans (State.linkFrame_violation _ l)

theorem State.linkFrame_setLink (s : State) (l : LinkId) (enable : Bool) (value mask : Half) :
    State.LinkFrame l s (s.setLink l enable value mask) := by
  unfold State.setLink
  dsimp only
  split
  · exact (s.linkFrame_setRx l _).trans (State.linkFrame_enterHunt _ l)
  · exact s.linkFrame_setRx l _
  · exact s.linkFrame_setRx l _
  · exact (s.linkFrame_setRx l _).trans (State.linkFrame_linkOff _ l)

theorem execSetLink_beside (s : State) : s.staysBeside (execSetLink s) := by
  unfold execSetLink
  split
  · split
    · exact ((s.linkFrame_setLink _ _ _ _).beside.trans (State.beside_answer _ _ _ _)).next
    · exact s.staysBeside_self
  · exact s.staysBeside_self

/-! The Acceptance Unit. -/

theorem State.beside_countAcceptance (s : State) (f : AcceptanceCounters → AcceptanceCounters) :
    s.Beside (s.countAcceptance f) := by apply State.Beside.of_eq <;> rfl

theorem State.beside_setRx (s : State) (l : LinkId) (r : Receiver) : s.Beside (s.setRx l r) :=
  (s.linkFrame_setRx l r).beside

theorem State.beside_releaseStaging (s : State) (l : LinkId) (i : Fin 2) : s.Beside (s.releaseStaging l i) :=
  s.beside_setRx l _

/-- The Acceptance Unit changes and keeps its bounds. -/
theorem State.beside_acceptance (s : State) (a : Acceptance)
    (strays : s.acceptance.strays.length ≤ 8 → a.strays.length ≤ 8)
    (routes : s.routesUnique → State.routesUnique { s with acceptance := a }) :
    s.Beside { s with acceptance := a } where
  rest := fun _ => rfl
  streams := rfl
  pages := rfl
  store := rfl
  laneOp := rfl
  request := fun _ _ _ h => .inl h
  strays := strays
  routes := routes

/-- A full list loses its oldest entry, so that no more than 8 stand in it (R120). -/
theorem State.beside_addStray (s : State) (l : LinkId) (f : Frame) : s.Beside (s.addStray l f) := by
  refine State.Beside.trans (State.Beside.trans ?_ (State.beside_countAcceptance _ _)) (State.beside_raiseIf _ _ _)
  refine s.beside_acceptance _ (fun h => ?_) id
  rw [List.length_append, List.length_singleton]
  split
  · rw [List.length_drop]
    omega
  · rename_i hf
    have : ¬ Config.strayRoom ≤ s.acceptance.strays.length := by simpa using hf
    unfold Config.strayRoom at this
    omega

theorem State.beside_settleTake (s : State) (l : LinkId) (i : Fin 2) (f : Frame) : s.Beside (s.settleTake l i f) := by
  unfold State.settleTake
  split
  · exact (s.beside_countAcceptance _).trans (State.beside_releaseStaging _ _ _)
  · exact (s.beside_addStray l f).trans (State.beside_releaseStaging _ _ _)
  · exact (s.beside_countAcceptance _).trans (State.beside_releaseStaging _ _ _)
  · exact (s.beside_countAcceptance _).trans (State.beside_releaseStaging _ _ _)
  · exact (s.beside_countAcceptance _).trans (State.beside_releaseStaging _ _ _)
  · exact s.beside_acceptance _ id id

theorem State.beside_takeFrom (s : State) (l : LinkId) : s.Beside (s.takeFrom l) := by
  unfold State.takeFrom
  split
  · exact .refl s
  · split
    · exact .refl s
    · exact ((s.beside_setRx l _).trans (State.beside_acceptance _ _ (by exact id) (by exact id))).trans
        (State.beside_settleTake _ _ _ _)

theorem execTake_beside (s : State) : s.staysBeside (execTake s) := by
  unfold execTake
  split
  · split
    · exact (s.beside_takeFrom _).next
    · exact s.staysBeside_self
  · exact s.staysBeside_self

/-- With no conflict, no other entry carries the tag (R122). -/
theorem State.tag_ne_of_no_conflict {s : State} {index : Fin 64} {tag : Half} (h : s.conflictIndex index tag = none)
    {i : Fin 64} (hi : i ≠ index) {r : Route} (hr : s.acceptance.routes[i] = some r) : r.tag ≠ tag := by
  unfold State.conflictIndex at h
  rw [List.find?_eq_none] at h
  have := h i (List.mem_finRange i)
  rw [hr] at this
  simpa [hi] using this

/-- An entry of the Route Table after one was set. -/
theorem State.route_setRouteEntry (s : State) (index i : Fin 64) (e : Option Route) :
    (s.setRouteEntry index e).acceptance.routes[i] = if i = index then e else s.acceptance.routes[i] := by
  simp only [State.setRouteEntry, Fin.getElem_fin, Vector.getElem_set, Fin.ext_iff, eq_comm]

theorem State.beside_setRouteEntry (s : State) (index : Fin 64) (e : Option Route)
    (h : ∀ r, e = some r → s.conflictIndex index r.tag = none) : s.Beside (s.setRouteEntry index e) := by
  refine s.beside_acceptance _ id (fun hu i j a b hi hj hab => ?_)
  have hi' := (s.route_setRouteEntry index i e).symm.trans hi
  have hj' := (s.route_setRouteEntry index j e).symm.trans hj
  split at hi'
  · split at hj'
    · exact (‹i = index›).trans (‹j = index›).symm
    · exact absurd hab.symm (State.tag_ne_of_no_conflict (h a hi') ‹_› hj')
  · split at hj'
    · exact absurd hab (State.tag_ne_of_no_conflict (h b hj') ‹_› hi')
    · exact hu i j a b hi' hj' hab

theorem execSetRoute_beside (s : State) : s.staysBeside (execSetRoute s) := by
  unfold execSetRoute
  split
  · split
    · split
      · exact (s.beside_answer _ _ _).next
      · rename_i hn
        refine State.Beside.next ((s.beside_setRouteEntry _ _ ?_).trans (State.beside_answer _ _ _ _))
        rintro r ⟨⟩
        exact hn
    · exact s.staysBeside_self
  · exact s.staysBeside_self

theorem execClearRoute_beside (s : State) : s.staysBeside (execClearRoute s) := by
  unfold execClearRoute
  split
  · split
    · split
      · exact ((s.beside_setRouteEntry _ none (by simp)).trans (State.beside_answer _ _ _ _)).next
      · exact (s.beside_answer _ _ _).next
    · exact s.staysBeside_self
  · exact s.staysBeside_self

theorem execReadStrays_beside (s : State) : s.staysBeside (execReadStrays s) := by
  have h : s.Beside { s with acceptance := { s.acceptance with strays := [] } } :=
    s.beside_acceptance _ (fun _ => Nat.zero_le _) id
  unfold execReadStrays
  split
  · split
    · dsimp only
      split
      · exact (h.trans (State.beside_answer _ _ _ _)).next
      · exact (h.trans (State.beside_setActivity _ _ (by simp))).next
    · exact s.staysBeside_self
  · exact s.staysBeside_self

/-! The Time Base and the Memory Port. -/

theorem State.beside_nudge (s : State) : s.Beside s.nudge := by
  unfold State.nudge
  split
  · split
    · exact s.beside_setWalker { s.walker with state := .walking, activity := .linkRead } (by simp)
    · exact s.beside_setWalker_same { s.walker with sweepPending := true } (by rfl)
    · exact s.beside_setWalker_same { s.walker with sweepPending := true } (by rfl)
  all_goals exact .refl s

theorem State.beside_time (s : State) (t : TimeBase) : s.Beside { s with time := t } := by
  apply State.Beside.of_eq <;> rfl

theorem State.beside_port (s : State) (p : Port) : s.Beside { s with port := p } := by
  apply State.Beside.of_eq <;> rfl

theorem State.beside_tally (s : State) (t : Tally) : s.Beside { s with tally := t } := by
  apply State.Beside.of_eq <;> rfl

theorem State.beside_flightFails (s : State) (r : FaultReason) : s.Beside (s.flightFails r) := by
  unfold State.flightFails
  split
  · split
    · exact s.beside_enterFaulted _ _
    · exact .refl s
  · exact .refl s

theorem State.beside_countDivider (s : State) : s.Beside s.countDivider := by
  unfold State.countDivider
  split
  · split
    · exact s.beside_time _
    · exact s.beside_time _
  · exact .refl s

/-- A reference clock period changes no stream. -/
theorem State.beside_clockPeriod (s : State) : s.Beside s.clockPeriod := by
  have counts (u : State) : u.Beside ((u.countDivider.countLine .a).countLine .b) :=
    (u.beside_countDivider.trans (State.linkFrame_countLine _ .a).beside).trans (State.linkFrame_countLine _ .b).beside
  have used : s.Beside { s with freeCount := s.freeCount + 1 } := by apply State.Beside.of_eq <;> rfl
  unfold State.clockPeriod
  split
  · dsimp only
    split
    · exact used.trans (State.beside_flightFails _ _)
    · exact (used.trans (counts _)).trans (State.beside_flightFails _ _)
  · exact (counts s).trans (State.beside_port _ _)

theorem execTick_beside (s : State) : s.staysBeside (execTick s) := by
  unfold execTick
  split
  · exact (s.beside_time _).next
  · exact s.staysBeside_self

theorem execSweepTimerExpiry_beside (s : State) : s.staysBeside (execSweepTimerExpiry s) := by
  unfold execSweepTimerExpiry
  split
  · exact ((s.beside_time _).trans (State.beside_nudge _)).next
  · exact s.staysBeside_self

theorem execTallyTimerExpiry_beside (s : State) : s.staysBeside (execTallyTimerExpiry s) := by
  unfold execTallyTimerExpiry
  split
  · exact ((s.beside_time _).trans (State.beside_joinChanged _)).next
  · exact s.staysBeside_self

/-- Presenting a transaction passes on no order. -/
theorem Walker.beginWrite_activity {w v : Walker} {ref : RecordRef} {kind : OutcomeKind} {tx : Tx}
    (h : w.beginWrite ref kind = some (tx, v)) : v.activity = w.activity := by
  obtain ⟨-, rfl⟩ := Prod.mk.inj (Option.some.inj h)
  rfl

theorem Walker.refuseNext_activity {w v : Walker} {tx : Tx} (h : w.refuseNext = some (tx, v)) :
    v.activity = w.activity := by
  unfold Walker.refuseNext at h
  split at h
  · exact (Walker.beginWrite_activity h).trans rfl
  · split at h
    · split at h
      · cases h
      · exact (Walker.beginWrite_activity h).trans rfl
    · cases h

theorem Walker.issue_activity {w v : Walker} {b : Bool} {tx : Tx} (h : w.issue b = some (tx, v)) :
    v.activity = w.activity ∨ ∃ ref rest k, v.activity = .strays ref rest k := by
  unfold Walker.issue at h
  split at h
  · cases h
    exact .inl rfl
  split at h
  · exact .inl ((Walker.beginWrite_activity h).trans rfl)
  unfold Walker.issueOwn at h
  split at h
  · cases h
    exact .inl rfl
  · cases h
    exact .inl rfl
  · cases h
    exact .inr ⟨_, _, _, rfl⟩
  · cases h
  · exact .inl (Walker.beginWrite_activity h)
  · exact .inl (Walker.beginWrite_activity h)
  · split at h
    · exact .inl (Walker.refuseNext_activity h)
    · cases h
  all_goals cases h

theorem State.beside_present {s t : State} {r : Requester} {tx : Tx} (h : s.present r = some (tx, t)) : s.Beside t := by
  unfold State.present at h
  split at h
  · split at h
    · rename_i hw
      cases h
      refine s.beside_setWalker _ (fun ref n c e => ?_)
      obtain h | ⟨_, _, _, h⟩ := Walker.issue_activity hw
      · exact h.symm
      · exact absurd (h.symm.trans e) (by simp)
    · cases h
  · split at h
    · cases h
      apply State.Beside.of_eq <;> rfl
    · cases h
  · split at h
    · split at h
      · cases h
        exact s.beside_tally _
      · cases h
    · cases h

theorem State.beside_firstPresent {s t : State} {l : List Requester} {r : Requester} {tx : Tx}
    (h : s.firstPresent l = some (r, tx, t)) : s.Beside t := by
  induction l with
  | nil => cases h
  | cons x l ih =>
    unfold State.firstPresent at h
    split at h
    · cases h
      exact State.beside_present ‹_›
    · exact ih h

theorem execMemoryGrant_beside (s : State) : s.staysBeside (execMemoryGrant s) := by
  unfold execMemoryGrant
  split
  · split
    · exact ((State.beside_firstPresent ‹_›).trans (State.beside_port _ _)).next
    · exact s.staysBeside_self
  · exact s.staysBeside_self

theorem execMemoryResponse_beside (s : State) : s.staysBeside (execMemoryResponse s) := by
  unfold execMemoryResponse
  split
  · split
    · dsimp only
      split
      · exact ((s.beside_land _).trans (State.beside_setWalker_same _ _ (by rfl))).next
      · exact (s.beside_land _).next
    · exact s.staysBeside_self
  · exact s.staysBeside_self

/-! The Order Walker and the Tally Writer. -/

/-- The global state enters ACTIVE or STOPPING. -/
theorem State.beside_global (s : State) (g : GlobalState) (h : g ≠ .idle ∧ g ≠ .starting) :
    s.Beside { s with global := g } where
  rest := fun e => (e.elim h.1 h.2).elim
  streams := rfl
  pages := rfl
  store := rfl
  laneOp := rfl
  request := fun _ _ _ e => .inl e
  strays := id
  routes := id

theorem State.beside_dropUnissued (s : State) : s.Beside s.dropUnissued := by
  have h := s.beside_setWalker { s.walker with activity := .idle } (by simp)
  unfold State.dropUnissued
  split
  · split
    · exact .refl s
    · exact h
  · split
    · exact .refl s
    · exact h
  all_goals exact .refl s

theorem State.beside_linkValue (s : State) (v : Word) : s.Beside (s.linkValue v) := by
  unfold State.linkValue
  split
  · split
    · exact s.beside_setWalker { s.walker with sweepPending := false, activity := .linkRead } (by simp)
    · exact s.beside_setWalker { s.walker with state := .parked, activity := .idle } (by simp)
  · split
    · exact s.beside_setActivity _ (by simp)
    · exact s.beside_enterFaulted _ _

theorem execLinkReadComplete_beside (v : Word) (s : State) : s.staysBeside (execLinkReadComplete v s) := by
  have stop (tx : Tx) : s.staysBeside (.next ((s.land tx).setActivity .idle).advanceStop) :=
    ((s.beside_land tx).trans (State.beside_setActivity _ _ (by simp))).advance
  unfold execLinkReadComplete
  split
  · split
    · split
      · exact ((s.beside_land _).trans (State.beside_linkValue _ v)).next
      all_goals exact stop _
    · exact s.staysBeside_self
  · exact s.staysBeside_self

/-- With no bad field each field is in range (R143). -/
theorem firstBad_eq_none {fields : List (Nat × Bool)} (h : firstBad fields = none) : ∀ p ∈ fields, p.2 = true := by
  induction fields with
  | nil => simp
  | cons x fields ih =>
    unfold firstBad at h
    split at h
    · exact List.forall_mem_cons.2 ⟨‹_›, ih h⟩
    · cases h

/-- Checks that accept an order accept the one they were given, all its fields in range (R141). -/
theorem checkFields_eq_accept {fields : List (Nat × Bool)} {o o' : Order} (h : checkFields fields o = .accept o') :
    o = o' ∧ ∀ p ∈ fields, p.2 = true := by
  unfold checkFields at h
  split at h
  · cases h
  · exact ⟨Checked.accept.inj h, firstBad_eq_none ‹_›⟩

/-- An OPEN STREAM that passes its checks has W and Q in their ranges (R1, R143). -/
theorem checkOrder_sized {r : BitVec 512} {n : StreamId} {c : StreamConfig}
    (h : checkOrder r = .accept (.openStream n c)) : c.sized := by
  have other {fields : List (Nat × Bool)} {o : Order} (h : checkFields fields o = .accept (.openStream n c))
      (ho : o ≠ .openStream n c) : c.sized := absurd (checkFields_eq_accept h).1 ho
  unfold checkOrder at h
  split at h
  · obtain ⟨e, ok⟩ := checkFields_eq_accept h
    cases e
    have hw := ok (2, decide (2 ≤ num8 r 17 ∧ num8 r 17 ≤ 16)) (by simp [openFields])
    have hq := ok (3, decide (1 ≤ num8 r 18 ∧ num8 r 18 ≤ 8)) (by simp [openFields])
    simp only [decide_eq_true_eq] at hw hq
    exact ⟨hw.1, hw.2, hq.1, hq.2⟩
  case h_11 => cases h
  case h_12 => cases h
  all_goals exact other h (by simp)

/-- A fetched order reaches its owner only when its fields have passed their checks. -/
theorem State.beside_orderFetched (s : State) (addr : Word) (r : BitVec 512) : s.Beside (s.orderFetched addr r) := by
  unfold State.orderFetched
  dsimp only
  split
  · exact s.beside_answer _ _ _
  · split
    · exact s.beside_setActivity _ (by simp)
    · rename_i hc
      exact {
        rest := fun _ => rfl
        streams := rfl
        pages := rfl
        store := rfl
        laneOp := rfl
        request := fun ref n c e => by
          obtain ⟨-, rfl⟩ := Activity.request.inj e
          exact .inr (checkOrder_sized hc)
        strays := id
        routes := id }

theorem execOrderFetchComplete_beside (r : BitVec 512) (s : State) : s.staysBeside (execOrderFetchComplete r s) := by
  unfold execOrderFetchComplete
  split
  · split
    · exact ((s.beside_land _).trans (State.beside_orderFetched _ _ r)).next
    · exact s.staysBeside_self
  · exact s.staysBeside_self

theorem execStrayEntryWriteComplete_beside (s : State) : s.staysBeside (execStrayEntryWriteComplete s) := by
  unfold execStrayEntryWriteComplete
  split
  · split
    · exact ((s.beside_land _).trans (State.beside_answer _ _ _ _)).next
    · exact s.staysBeside_self
  · exact s.staysBeside_self

theorem State.beside_countFinal (s : State) (ref : RecordRef) (r : Result) : s.Beside (s.countFinal ref r) := by
  unfold State.countFinal
  dsimp only
  refine State.Beside.trans (State.Beside.trans ?_ (State.beside_markDevice _)) (State.beside_raiseIf _ _ _)
  split
  · exact s.beside_setWalker_same _ (by rfl)
  · exact s.beside_setWalker_same _ (by rfl)

theorem State.beside_moveOn (s : State) (ref : RecordRef) : s.Beside (s.moveOn ref) := by
  apply s.beside_setWalker { s.walker with
    cursor := ref.linkAddr, activity := if s.global = .active then .linkRead else .idle }
  dsimp only
  split <;> simp

theorem State.beside_drainGone (s : State) (n : StreamId) : s.Beside (s.drainGone n) := by
  unfold State.drainGone
  dsimp only
  split
  · split
    · exact s.beside_setWalker_same _ (by rfl)
    · exact (s.beside_setWalker_same _ (by rfl)).trans (State.beside_setWalker_same _ _ (by rfl))
  · exact s.beside_setWalker_same _ (by rfl)

theorem State.beside_barrierGone (s : State) (ref : RecordRef) : s.Beside (s.barrierGone ref) := by
  have h := s.beside_setWalker_same { s.walker with heldBarrier := none } (by rfl)
  unfold State.barrierGone
  dsimp only
  split
  · exact (h.trans (State.beside_setWalker_same _ _ (by rfl))).trans (State.beside_moveOn _ ref)
  · exact h

theorem State.beside_takenDone (s : State) (ref : RecordRef) (source : HeldKind) :
    s.Beside (s.takenDone ref source) := by
  unfold State.takenDone
  split
  · exact (s.beside_setWalker_same _ (by rfl)).trans (State.beside_moveOn _ ref)
  · exact s.beside_setWalker _ (by simp)

theorem State.beside_outcomeWritten (s : State) (o : OutcomeWrite) : s.Beside (s.outcomeWritten o) := by
  have h := s.beside_setWalker_same { s.walker with writing := none } (by rfl)
  unfold State.outcomeWritten
  dsimp only
  refine h.trans ?_
  split
  · exact State.beside_takenDone _ _ _
  · exact (State.beside_countFinal _ _ _).trans (State.beside_moveOn _ _)
  · exact (State.beside_countFinal _ _ _).trans (State.beside_drainGone _ _)
  · exact (State.beside_countFinal _ _ _).trans (State.beside_barrierGone _ _)

theorem execOutcomeStateWriteComplete_beside (s : State) : s.staysBeside (execOutcomeStateWriteComplete s) := by
  unfold execOutcomeStateWriteComplete
  split
  · split
    · exact ((s.beside_land _).trans (State.beside_outcomeWritten _ _)).advance
    · exact s.staysBeside_self
  · exact s.staysBeside_self

theorem execBarrier_beside (s : State) : s.staysBeside (execBarrier s) := by
  unfold execBarrier
  split
  · split
    · split
      · exact (s.beside_answer _ _ _).next
      · exact (s.beside_setWalker _ (by simp)).next
    · exact s.staysBeside_self
  · exact s.staysBeside_self

theorem State.beside_tallyOrderDone (s : State) (w : TallyWrite) : s.Beside (s.tallyOrderDone w) := by
  unfold State.tallyOrderDone
  split
  · split
    · exact s.beside_answer _ _ _
    · exact .refl s
  · exact .refl s

theorem execTallyWriteComplete_beside (s : State) : s.staysBeside (execTallyWriteComplete s) := by
  unfold execTallyWriteComplete
  split
  · split
    · exact (((s.beside_land _).trans (State.beside_tally _ _)).trans (State.beside_tallyOrderDone _ _)).advance
    · exact s.staysBeside_self
  · exact s.staysBeside_self

theorem execWriteTally_beside (s : State) : s.staysBeside (execWriteTally s) := by
  unfold execWriteTally
  split
  · split
    · exact ((s.beside_tally _).trans (State.beside_setActivity _ _ (by simp))).next
    · exact s.staysBeside_self
  · exact s.staysBeside_self

/-- Entry to STOPPING: the walker's read that was not issued is dropped, and the stop sequence begins. -/
theorem State.enterStopping_beside (s : State) : ∃ u, s.Beside u ∧ s.enterStopping = u.advanceStop :=
  ⟨_, s.beside_dropUnissued.trans (State.beside_global _ _ (by simp)), rfl⟩

theorem execRootReadComplete_beside (r : BitVec 256) (s : State) : s.staysBeside (execRootReadComplete r s) := by
  unfold execRootReadComplete
  split
  · split
    · dsimp only
      split
      · have active (u : State) (time : TimeBase) (tally : Tally) : u.Beside { u with
            global := .active, time := time, tally := tally,
            walker := { u.walker with cursor := u.root + 8, state := .walking, activity := .linkRead } } :=
          (((u.beside_global .active (by simp)).trans (State.beside_time _ time)).trans (State.beside_tally _ tally)).trans
            (State.beside_setWalker _ { u.walker with cursor := u.root + 8, state := .walking, activity := .linkRead }
              (by simp))
        unfold State.enterActive
        dsimp only
        split
        · exact ((s.beside_land _).trans (active _ _ _)).next
        · obtain ⟨v, hv, e⟩ := State.enterStopping_beside _
          rw [e]
          exact (((s.beside_land _).trans (active _ _ _)).trans hv).advance
      · exact ((s.beside_land _).trans (State.beside_enterFaulted _ _ _)).next
    · exact s.staysBeside_self
  · exact s.staysBeside_self

/-! ### The kinds of commands -/

/-- The writes of the register window and the reset input: they may reset the part. -/
def isControl : Instr → Bool
  | .run _ | .nudge _ | .srst _ | .causeClear _ | .enableWrite _ | .rootWrite _ | .registerWriteIgnored _ _ _
  | .pinReset => true
  | _ => false

/-- The commands that act on a stream or its pages. -/
def isStream : Instr → Bool
  | .headExpiry _ | .silenceExpiry _ | .ageExpiry _ | .offer | .openStream | .drainClose | .immediateClose
  | .alterStream | .attachPages | .flushPage | .recordOperation | .recordWriteComplete | .pageCloseIssue
  | .pageCloseComplete | .returnIssue | .returnComplete | .tallySnapshot => true
  | _ => false

/-- Every other command changes nothing of any stream. -/
theorem exec_beside (c : Instr) (s : State) (hc : isControl c = false) (hs : isStream c = false) :
    s.staysBeside (exec c s) := by
  have symbol (l : LinkId) (f g : State → State) (hf : ∀ u, State.LinkFrame l u (f u))
      (hg : ∀ u, State.LinkFrame l u (g u)) : s.staysBeside (.next (s.symbol l f g)) :=
    (s.linkFrame_symbol l f g hf hg).beside.next
  have broken (l : LinkId) (u : State) : State.LinkFrame l u (u.breakIdleRun l) := u.linkFrame_setRx l _
  cases c with
  | pinResetRelease => exact State.Beside.next (by apply State.Beside.of_eq <;> rfl)
  | rootReadComplete r => exact execRootReadComplete_beside r s
  | memoryGrant => exact execMemoryGrant_beside s
  | memoryResponse => exact execMemoryResponse_beside s
  | busError => exact (s.beside_flightFails _).next
  | busTimeout => exact (s.beside_flightFails _).next
  | tick => exact execTick_beside s
  | sweepTimerExpiry => exact execSweepTimerExpiry_beside s
  | tallyTimerExpiry => exact execTallyTimerExpiry_beside s
  | idleSymbol l => exact symbol l _ _ (fun u => u.linkFrame_idleInHunt l) (fun u => u.linkFrame_idleInUp l)
  | startSymbol l => exact symbol l _ _ (broken l) (fun u => u.linkFrame_startInUp l)
  | dataSymbol l b => exact symbol l _ _ (broken l) (fun u => u.linkFrame_dataInUp l b)
  | endSymbol l => exact symbol l _ _ (broken l) (fun u => u.linkFrame_endInUp l)
  | violationSymbol l => exact symbol l _ _ (broken l) (fun u => u.linkFrame_violationInUp l)
  | lineLoss l => exact (s.linkFrame_lineLoss l).beside.next
  | take => exact execTake_beside s
  | orderFetchComplete r => exact execOrderFetchComplete_beside r s
  | setRoute => exact execSetRoute_beside s
  | clearRoute => exact execClearRoute_beside s
  | setLink => exact execSetLink_beside s
  | writeTally => exact execWriteTally_beside s
  | readStrays => exact execReadStrays_beside s
  | barrier => exact execBarrier_beside s
  | linkReadComplete v => exact execLinkReadComplete_beside v s
  | outcomeStateWriteComplete => exact execOutcomeStateWriteComplete_beside s
  | strayEntryWriteComplete => exact execStrayEntryWriteComplete_beside s
  | tallyWriteComplete => exact execTallyWriteComplete_beside s
  | run | nudge | srst | causeClear | enableWrite | rootWrite | registerWriteIgnored | pinReset => cases hc
  | headExpiry | silenceExpiry | ageExpiry | offer | openStream | drainClose | immediateClose | alterStream
  | attachPages | flushPage | recordOperation | recordWriteComplete | pageCloseIssue | pageCloseComplete
  | returnIssue | returnComplete | tallySnapshot => cases hs

/-! ### Invariants of the part -/

/-- The blocks stand as a reset or the entry to IDLE leaves them (R175, R178). -/
structure State.Fresh (s : State) : Prop where
  streams : s.streams = Vector.replicate 64 .reset
  pages : s.pages = Vector.replicate 64 .reset
  pool : s.store.pool = BurstStore.fullPool
  reserved : s.store.reserved = 0
  lane : s.lane = .reset
  acceptance : s.acceptance = .reset
  walker : s.walker = .reset

theorem State.Fresh.stream {s : State} (h : s.Fresh) (n : StreamId) : s.stream n = .reset := by
  simp [State.stream, h.streams]

theorem State.Fresh.page {s : State} (h : s.Fresh) (n : StreamId) : s.page n = .reset := by
  simp [State.page, h.pages]

theorem State.fresh_resetBlocks (s : State) : s.resetBlocks.Fresh where
  streams := rfl
  pages := rfl
  pool := by simp only [State.resetBlocks]
  reserved := rfl
  lane := rfl
  acceptance := rfl
  walker := rfl

/-- Freshness rests on the blocks alone. -/
theorem State.Fresh.of_eq {s t : State} (h : s.Fresh) (streams : t.streams = s.streams) (pages : t.pages = s.pages)
    (store : t.store = s.store) (lane : t.lane = s.lane) (acceptance : t.acceptance = s.acceptance)
    (walker : t.walker = s.walker) : t.Fresh where
  streams := streams.trans h.streams
  pages := pages.trans h.pages
  pool := store ▸ h.pool
  reserved := store ▸ h.reserved
  lane := lane.trans h.lane
  acceptance := acceptance.trans h.acceptance
  walker := walker.trans h.walker

theorem State.fresh_softReset (s : State) : s.softReset.Fresh :=
  s.abandonFlight.fresh_resetBlocks.of_eq rfl rfl rfl rfl rfl rfl

theorem State.fresh_pinReset (s : State) : s.pinReset.Fresh := s.fresh_softReset.of_eq rfl rfl rfl rfl rfl rfl

theorem State.fresh_enterIdle (s : State) : s.enterIdle.Fresh := s.fresh_resetBlocks.of_eq rfl rfl rfl rfl rfl rfl

/-- What an invariant of the part must be kept by. The commands beside the streams, the resets and the order in which the
stop sequence goes on are then the same for every invariant. -/
structure State.Kept (inv : State → Prop) : Prop where
  beside : ∀ {s t : State}, s.Beside t → inv s → inv t
  fresh : ∀ {s : State}, s.Fresh → inv s
  starting : ∀ {s : State}, inv s → inv s.enterStarting
  closeNow : ∀ {s : State} {n : StreamId} {r : CloseReason}, (s.stream n).state ≠ .closed →
    (s.stream n).closing = none → inv s → inv (s.closeNow n r)
  command : ∀ {c : Instr} {s t : State}, isStream c = true → exec c s = .next t → inv s →
    ∃ u, inv u ∧ (t = u ∨ t = u.advanceStop)

section
variable {inv : State → Prop} (k : State.Kept inv)
include k

theorem State.Kept.stopStream {s : State} (h : inv s) (n : StreamId) : inv (s.stopStream n) := by
  unfold State.stopStream
  split
  · rename_i hc
    exact k.closeNow hc.1 hc.2 h
  · exact h

theorem State.Kept.stopStreams (l : List StreamId) {s : State} (h : inv s) : inv (l.foldl State.stopStream s) := by
  induction l generalizing s with
  | nil => exact h
  | cons n l ih => exact ih (k.stopStream h n)

theorem State.Kept.advanceStop {s : State} (h : inv s) : inv s.advanceStop := by
  have h1 : inv s.stop1 := by
    unfold State.stop1
    split
    · exact k.beside (s.beside_global _ (by simp)) h
    · exact h
  have h2 : inv s.stop1.stop2 := by
    unfold State.stop2
    split
    · have parked (u : State) : u.Beside
          { u with global := .stopping .links, walker := { u.walker with state := .parked } } :=
        (u.beside_global (.stopping .links) (by simp)).trans (State.beside_setWalker_same _ _ (by rfl))
      exact k.beside (((parked _).trans (State.linkFrame_linkOff _ .a).beside).trans
        (State.linkFrame_linkOff _ .b).beside) h1
    · exact h1
  have h3 : inv s.stop1.stop2.stop3 := by
    unfold State.stop3
    split
    · exact k.stopStreams _ (k.beside (State.beside_global _ (.stopping .streams) (by simp)) h2)
    · exact h2
  have h4 : inv s.stop1.stop2.stop3.stop4 := by
    unfold State.stop4
    split
    · exact k.beside ((State.beside_joinChanged _).trans (State.beside_global _ (.stopping .tallies) (by simp))) h3
    · exact h3
  unfold State.advanceStop State.stop5
  split
  · dsimp only
    have idle (u : State) : inv (u.enterIdle.raise causeStopped) :=
      k.beside (State.beside_raise _ _) (k.fresh u.fresh_enterIdle)
    split
    · exact k.starting (idle _)
    · exact idle _
  · exact h4

theorem State.Kept.staysBeside {s t : State} {o : Host.Outcome State Fault Refusal} (hb : s.staysBeside o)
    (e : o = .next t) (h : inv s) : inv t := by
  obtain ⟨u, hu, rfl | rfl⟩ := hb <;> cases e
  · exact k.beside hu h
  · exact k.advanceStop (k.beside hu h)

theorem State.Kept.writeRun {s : State} (h : inv s) (v : Bool) : inv (s.writeRun v) := by
  have h1 : inv { s with run := v } := k.beside (by apply State.Beside.of_eq <;> rfl) h
  unfold State.writeRun
  dsimp only
  split
  · split
    · exact k.starting h1
    · exact h1
  · split
    · exact h1
    · obtain ⟨u, hu, e⟩ := State.enterStopping_beside { s with run := v }
      rw [e]
      exact k.advanceStop (k.beside hu h1)
  · split
    · exact h1
    · exact k.fresh (State.fresh_enterIdle _)
  · exact h1
  · exact h1

theorem State.Kept.writeControl {s : State} (h : inv s) (v : Word) : inv (s.writeControl v) := by
  unfold State.writeControl
  split
  · exact k.fresh s.fresh_softReset
  · dsimp only
    split
    · exact k.beside (State.beside_nudge _) (k.writeRun h _)
    · exact k.writeRun h _

theorem State.Kept.writeWindow {s : State} (h : inv s) (offset : BitVec 5) (size : AccessSize) (v : Word) :
    inv (s.writeWindow offset size v) := by
  have register (u : State) (e : s.Beside u) : inv u := k.beside e h
  unfold State.writeWindow
  split
  · exact h
  · split
    · exact h
    · exact h
    · split
      · exact k.writeControl h v
      · refine register _ ?_
        unfold State.writeRoot
        split
        · apply State.Beside.of_eq <;> rfl
        · exact .refl s
      · exact register _ (by apply State.Beside.of_eq <;> rfl)
      · exact register _ (by apply State.Beside.of_eq <;> rfl)
      · exact h

theorem State.Kept.exec {c : Instr} {s t : State} (e : exec c s = .next t) (h : inv s) : inv t := by
  by_cases hs : isStream c = true
  · obtain ⟨u, hu, rfl | rfl⟩ := k.command hs e h
    · exact hu
    · exact k.advanceStop hu
  by_cases hc : isControl c = true
  · cases c with
    | pinReset =>
      cases e
      exact k.fresh s.fresh_pinReset
    | run | nudge | srst | causeClear | enableWrite | rootWrite | registerWriteIgnored =>
      cases e
      exact k.writeWindow h _ _ _
    | _ => cases hc
  · exact k.staysBeside (exec_beside c s (by simpa using hc) (by simpa using hs)) e h

/-- Every step keeps an invariant of the part. -/
theorem State.Kept.step : StepKeeps inv := by
  intro s t h e
  unfold Machine.step at e
  split at e
  · cases e
    exact k.beside s.beside_clockPeriod h
  · exact k.exec e (k.beside (by apply State.Beside.of_eq <;> rfl) h)

end

end Sys2Proof.Machine
end

section
/-! SUPPORT. The frame of every command that acts on a stream: it changes that one stream and its pages. -/

namespace Sys2Proof.Machine

open Sys2Proof

/-! ### The Stream Engine -/

theorem State.only_offerRecord (s : State) (n : StreamId) (r : QueueRecord) : State.Only n s (s.offerRecord n r) := by
  unfold State.offerRecord
  split
  · rename_i hroom
    exact s.only_modStream n _ (fun _ => by simpa using hroom) id
  · exact (s.only_modStream_same n _ rfl rfl rfl).trans (State.only_freeBuffers _ n _)

theorem State.only_advance (s : State) (n : StreamId) (due : Word) (k : Nat) :
    State.Only n s (s.modStream n (Stream.advance due k)) := s.only_modStream_same n _ rfl rfl rfl

theorem State.only_rearmHead (s : State) (n : StreamId) : State.Only n s (s.rearmHead n) := by
  unfold State.rearmHead
  split
  · exact s.only_testDrained n
  · exact (s.beside_arm n _ _).only n

theorem State.only_releaseData (s : State) (n : StreamId) (due : Word) (b : Burst) :
    State.Only n s (s.releaseData n due b) :=
  (((s.only_modStream_same n _ rfl rfl rfl).trans (State.only_offerRecord _ n _)).trans
    (State.only_advance _ n due 1)).trans (State.only_rearmHead _ n)

theorem State.only_claim {s t : State} {x : List Half} {b : BufferId} (h : s.claim x = some (b, t)) (n : StreamId) :
    State.Only n s t := by
  rw [State.claim_eq] at h
  split at h
  · cases h
  · cases h
    exact s.only_filled n _ _ _

theorem State.only_makeFill {s t : State} {n : StreamId} {due : Word} {r : QueueRecord}
    (h : s.makeFill n due = some (r, t)) : State.Only n s t := by
  unfold State.makeFill at h
  dsimp only at h
  split at h
  · cases h
    exact .refl n s
  · cases h
    exact .refl n s
  · split at h
    · cases h
      exact .refl n s
    · split at h
      · cases h
        exact State.only_claim ‹_› n
      · cases h

theorem State.only_releaseFill {s t : State} {n : StreamId} {due : Word} (h : s.releaseFill n due = some t) :
    State.Only n s t := by
  unfold State.releaseFill at h
  split at h
  · cases h
  · cases h
    exact ((((State.only_makeFill ‹_›).trans (State.only_modStream_same _ n _ rfl rfl rfl)).trans
      (State.only_offerRecord _ n _)).trans (State.only_advance _ n due 1)).trans (State.only_rearmHead _ n)

theorem State.only_skipAhead (s : State) (n : StreamId) (due : Word) (k : Nat) :
    State.Only n s (s.skipAhead n due k) :=
  (s.only_modStream_same n _ rfl rfl rfl).beside (State.beside_arm _ n _ _)

theorem State.only_stall (s : State) (n : StreamId) : State.Only n s (s.stall n) :=
  ((s.only_changeState n _).trans (State.only_modStream_same _ n _ rfl rfl rfl)).beside (State.beside_alarm _ n)

theorem State.only_headExpiry {s t : State} {n : StreamId} {due : Word} (h : s.headExpiry n due = some t) :
    State.Only n s t := by
  unfold State.headExpiry at h
  dsimp only at h
  split at h
  · split at h
    · cases h
      exact s.only_releaseData n _ _
    · split at h
      · exact State.only_releaseFill h
      · split at h
        · cases h
          exact s.only_skipAhead n _ _
        · cases h
          exact s.only_stall n
  · split at h
    · cases h
      exact s.only_releaseData n _ _
    · split at h
      · cases h
        exact s.only_skipAhead n _ _
      · cases h
        exact .refl n s
  all_goals
    cases h
    exact .refl n s

theorem State.only_cutStream (s : State) (n : StreamId) : State.Only n s (s.cutStream n) :=
  ((((s.only_flushWindow n).beside (State.beside_cancel _ n _)).trans (State.only_changeState _ n _)).trans
    (State.only_modStream_same _ n _ rfl rfl rfl)).beside (State.beside_alarm _ n)

theorem State.only_silenceExpiry (s : State) (n : StreamId) : State.Only n s (s.silenceExpiry n) := by
  unfold State.silenceExpiry
  split
  iterate 3 exact s.only_cutStream n
  all_goals exact .refl n s

/-! ### Offers -/

theorem Stream.noteMargin_frame (m : Word) (st : Stream) :
    (st.noteMargin m).queue = st.queue ∧ (st.noteMargin m).config = st.config
      ∧ (st.noteMargin m).earlyRun = st.earlyRun := by
  unfold Stream.noteMargin
  split <;> simp

theorem State.only_placeBurst {s t : State} {n : StreamId} {o : Nat} {f : Frame} {l : LinkId}
    (h : s.placeBurst n o f l = some t) : State.Only n s t := by
  unfold State.placeBurst at h
  split at h
  · cases h
  · rename_i hc
    cases h
    refine (State.only_claim hc n).trans (State.only_modStream _ n _ (fun hq => ?_) (fun _ => ?_))
    · obtain ⟨e1, e2, -⟩ := Stream.noteMargin_frame _ _
      rw [e1, e2]
      exact hq
    · obtain ⟨-, -, e⟩ := Stream.noteMargin_frame _ _
      rw [e]
      exact Nat.zero_le 15

theorem State.only_storeBurst {s t : State} {n : StreamId} {o : Nat} {f : Frame} {l : LinkId}
    (h : s.storeBurst n o f l = some t) : State.Only n s t := by
  obtain ⟨u, hu, rfl⟩ := Option.map_eq_some_iff.1 h
  exact (State.only_placeBurst hu).beside (State.beside_armSilence _ n _)

theorem Stream.countAnchoring_frame (st : Stream) :
    st.countAnchoring.queue = st.queue ∧ st.countAnchoring.config = st.config
      ∧ st.countAnchoring.earlyRun = st.earlyRun := by
  unfold Stream.countAnchoring
  split <;> simp [Stream.tally]

theorem State.only_anchor {s t : State} {n : StreamId} {f : Frame} {l : LinkId} (h : s.anchor n f l = some t) :
    State.Only n s t := by
  unfold State.anchor at h
  dsimp only at h
  split at h
  · cases h
  · rename_i hp
    cases h
    have counted (u : State) : State.Only n u (u.modStream n Stream.countAnchoring) :=
      u.only_modStream_same n _ (Stream.countAnchoring_frame _).1 (Stream.countAnchoring_frame _).2.1
        (Stream.countAnchoring_frame _).2.2
    exact (((((s.only_modStream_same n _ rfl rfl rfl).trans (State.only_placeBurst hp)).beside
      (State.beside_arm _ n _ _)).beside (State.beside_armSilence _ n _)).trans (State.only_changeState _ n _)).trans
        (counted _)

theorem State.only_offerToWaiting {s t : State} {n : StreamId} {f : Frame} {l : LinkId}
    (h : s.offerToWaiting n f l = some t) : State.Only n s t := by
  unfold State.offerToWaiting at h
  split at h
  · cases h
    exact s.only_modStream_same n _ rfl rfl rfl
  · exact State.only_anchor h

theorem State.only_resync {s t : State} {n : StreamId} {f : Frame} {l : LinkId} (h : s.resync n f l = some t) :
    State.Only n s t := by
  have h1 : State.Only n s ((s.flushWindow n).alarm n) := (s.only_flushWindow n).beside (State.beside_alarm _ n)
  unfold State.resync at h
  dsimp only at h
  split at h
  · cases h
    exact ((h1.beside (State.beside_cancel _ n _)).trans
      (State.only_modStream _ n _ id (fun _ => Nat.zero_le 15))).trans (State.only_changeState _ n _)
  · exact h1.trans (State.only_anchor h)

theorem State.only_offerEarly {s t : State} {n : StreamId} {f : Frame} {l : LinkId}
    (h : s.offerEarly n f l = some t) : State.Only n s t := by
  have h1 : State.Only n s (s.modStream n (fun st =>
      ({ st with earlyRun := earlyRunAfter st.earlyRun } : Stream).tally (fun c => { c with early := c.early + 1 }))) :=
    s.only_modStream n _ id (fun _ => earlyRunAfter_le _)
  unfold State.offerEarly at h
  dsimp only at h
  split at h
  · cases h
    exact h1
  · exact h1.trans (State.only_resync h)

theorem State.only_offerToRunning {s t : State} {n : StreamId} {f : Frame} {l : LinkId}
    (h : s.offerToRunning n f l = some t) : State.Only n s t := by
  unfold State.offerToRunning at h
  dsimp only at h
  split at h
  · split at h
    · cases h
      exact s.only_modStream_same n _ rfl rfl rfl
    · exact State.only_storeBurst h
  · split at h
    · exact State.only_offerEarly h
    · cases h
      exact s.only_modStream_same n _ rfl rfl rfl

theorem State.beside_refuseOffer (s : State) : s.Beside s.refuseOffer := by apply State.Beside.of_eq <;> rfl

theorem State.only_takeOffer {s t : State} {n : StreamId} {f : Frame} {l : LinkId} (h : s.takeOffer n f l = some t) :
    State.Only n s t := by
  unfold State.takeOffer at h
  split at h
  iterate 2
    cases h
    exact s.beside_refuseOffer.only n
  iterate 3 exact State.only_offerToWaiting h
  exact State.only_offerToRunning h

/-! ### Stream orders -/

theorem State.only_openStream (s : State) (n : StreamId) (c : StreamConfig) : State.Only n s (s.openStream n c) :=
  ((((s.only_store n _).trans (State.only_modStream _ n _ (fun _ => Nat.zero_le _) (fun _ => Nat.zero_le _))).trans
    (State.only_setPage _ n _ (fun _ => Nat.zero_le _))).beside (State.beside_join _ _)).beside
      (State.beside_armSilence _ n _)

theorem State.only_drainClose (s : State) (ref : RecordRef) (n : StreamId) : State.Only n s (s.drainClose ref n) := by
  unfold State.drainClose
  dsimp only
  refine State.Only.trans (State.Only.trans ?_ (State.only_changeState _ n _)) (State.only_testDrained _ n)
  have h := (s.beside_setWalker { s.walker with
    held := s.walker.held ++ [{ ref := ref, stream := n, takenWritten := false, settled := false }]
    activity := .taken ref (.drain n) } (by simp)).trans (State.beside_cancel _ n .silence)
  split
  · exact (h.trans (State.beside_cancel _ n _)).only n
  · exact h.only n

theorem State.beside_alterSilence (s : State) (n : StreamId) (v : Half) : s.Beside (s.alterSilence n v) := by
  unfold State.alterSilence
  split
  · split
    · exact s.beside_cancel n _
    · exact s.beside_arm n _ _
  · exact .refl s

theorem State.beside_alterAge (s : State) (n : StreamId) (v : Half) : s.Beside (s.alterAge n v) := by
  unfold State.alterAge
  split
  · split
    · exact s.beside_cancel n _
    · exact s.beside_arm n _ _
  · exact .refl s

/-- But for the configuration an accepted ALTER STREAM moves deadlines only. -/
theorem State.alterStream_beside (s : State) (n : StreamId) (a : Alteration) :
    (s.modStream n (fun st => { st with config := st.config.altered a })).Beside (s.alterStream n a) := by
  have silence (u : State) : u.Beside (match a.silence with | some v => u.alterSilence n v | none => u) := by
    split
    · exact u.beside_alterSilence n _
    · exact .refl u
  unfold State.alterStream
  dsimp only
  split
  · exact (silence _).trans (State.beside_alterAge _ n _)
  · exact silence _

theorem State.only_alterStream (s : State) (n : StreamId) (a : Alteration) : State.Only n s (s.alterStream n a) :=
  (s.only_modStream n (fun st => { st with config := st.config.altered a }) id id).beside (s.alterStream_beside n a)

/-! ### The Delivery Engine -/

/-- A turn of the lane: the part works, the lane is free, and the stream has the work. -/
theorem State.serves_of_laneTurn {s : State} {w : Work} {n : StreamId} (h : s.laneTurn w = some n) :
    s.laneServes n w := by
  unfold State.laneTurn at h
  split at h
  · rename_i hl
    split at h
    · rename_i hc
      split at h
      · rename_i hv
        cases h
        exact ⟨hl.1, hl.2, hv ▸ hc⟩
      · cases h
    · cases h
  · cases h

/-- A free lane turns to an operation of a stream. -/
theorem State.only_beginOp_free (s : State) (n : StreamId) (op : LaneOp) (txs : List Tx) (free : s.lane.op = none)
    (now : op.stream = n) : State.Only n s (s.beginOp n op txs) :=
  s.only_beginOp n op txs (by simp [free]) now

theorem State.only_openPage (s : State) (n : StreamId) (tick : Word) : State.Only n s (s.openPage n tick) := by
  unfold State.openPage
  split
  · rename_i a rest _ hs
    refine (s.only_setSupply n rest (fun h => ?_)).trans (State.only_modPage_same _ n _ rfl)
    rw [hs] at h
    exact (Nat.le_succ _).trans h
  · exact .refl n s
  · exact .refl n s

theorem State.openPage_lane (s : State) (n : StreamId) (tick : Word) : (s.openPage n tick).lane = s.lane := by
  unfold State.openPage
  split <;> rfl

/-- A page state whose close is issued: the serial rises (R87). -/
def PageState.issued (pg : PageState) : PageState :=
  { pg with serial := pg.serial + 1, closingPage := pg.closingPage.map (fun p => { p with issued := true }) }

theorem State.issueClose_fst (s : State) (n : StreamId) : (s.issueClose n).1 = s.modPage n PageState.issued := by
  unfold State.issueClose
  dsimp only
  split <;> rfl

theorem State.only_issueClose (s : State) (n : StreamId) : State.Only n s (s.issueClose n).1 := by
  rw [State.issueClose_fst]
  exact s.only_modPage_same n _ rfl

theorem State.issueClose_lane (s : State) (n : StreamId) : (s.issueClose n).1.lane = s.lane := by
  rw [State.issueClose_fst]
  rfl

theorem State.only_beginRecord (s : State) (n : StreamId) (free : s.lane.op = none) :
    State.Only n s (s.beginRecord n) := by
  unfold State.beginRecord
  dsimp only
  split
  · split
    · exact s.only_beginOp_free n _ _ free rfl
    · refine ((s.only_beginPageClose n .full false false).trans (State.only_issueClose _ n)).trans
        (State.only_beginOp_free _ n _ _ ?_ rfl)
      rw [State.issueClose_lane, (s.closingFrame_beginPageClose n .full false false).lane]
      exact free
  · refine (s.only_openPage n _).trans (State.only_beginOp_free _ n _ _ ?_ rfl)
    rw [State.openPage_lane]
    exact free
  · exact .refl n s

theorem PageState.countRecord_supply (pg : PageState) (sequence : Half) (r : Nat) :
    (pg.countRecord sequence r).supply = pg.supply := by
  unfold PageState.countRecord
  split <;> rfl

theorem State.beside_armAge (s : State) (n : StreamId) : s.Beside (s.armAge n) := by
  unfold State.armAge
  split
  · split
    · exact s.beside_arm n _ _
    · exact .refl s
  · exact .refl s

theorem State.only_recordWritten (s : State) (n : StreamId) (was : ∀ o, s.lane.op = some o → o.stream = n) :
    State.Only n s (s.recordWritten n) := by
  unfold State.recordWritten
  split
  · exact s.only_laneFree n was
  · rename_i r rest hq
    dsimp only
    refine State.Only.trans (State.Only.trans (State.Only.trans (State.Only.beside
      (((s.only_modStream n _ (fun h => ?_) id).trans (State.only_freeBuffers _ n _)).trans
        (State.only_modPage_same _ n _ (PageState.countRecord_supply _ _ _))) (State.beside_armAge _ n))
      (State.only_laneFree _ n ?_)) (State.only_laneDone _ n)) (State.only_testDrained _ n)
    · rw [hq] at h
      exact (Nat.le_succ _).trans h
    · rw [(State.beside_armAge _ n).laneOp]
      exact was

theorem State.only_pageClosed (s : State) (n : StreamId) : State.Only n s (s.pageClosed n) :=
  (((s.only_modPage_same n _ rfl).trans (State.only_modStream_same _ n _ rfl rfl rfl)).beside
    (State.beside_join _ _)).beside (State.beside_raiseIf _ _ _)

theorem State.beside_flushDone (s : State) (n : StreamId) : s.Beside (s.flushDone n) := by
  unfold State.flushDone
  split
  · split
    · exact s.beside_answer _ _ _
    · exact .refl s
  · exact .refl s

theorem State.only_closeDone (s : State) (n : StreamId) : State.Only n s (s.closeDone n) := by
  unfold State.closeDone
  split
  · split
    · exact s.only_closeStep2 n _
    · exact s.only_closeStep3 n
    all_goals exact .refl n s
  · exact .refl n s

theorem State.pageClosed_lane (s : State) (n : StreamId) : (s.pageClosed n).lane = s.lane := by
  simp [State.pageClosed]

theorem State.only_closeFinished (s : State) (n : StreamId) (was : ∀ o, s.lane.op = some o → o.stream = n) :
    State.Only n s (s.closeFinished n) := by
  have h := (s.only_pageClosed n).trans (State.only_laneFree _ n (by rw [State.pageClosed_lane]; exact was))
  unfold State.closeFinished
  dsimp only
  refine State.Only.trans ?_ (State.only_closeDone _ n)
  split
  · exact h.beside (State.beside_flushDone _ n)
  · exact h

/-- The lane's transactions change: no stream sees them. -/
theorem State.beside_todo (s : State) (txs : List Tx) : s.Beside { s with lane := { s.lane with todo := txs } } := by
  apply State.Beside.of_eq <;> rfl

theorem State.only_fullFinished (s : State) (n : StreamId) (begun : Word) :
    State.Only n s (s.fullFinished n begun) :=
  ((s.only_pageClosed n).trans (State.only_openPage _ n _)).beside (State.beside_todo _ _)

theorem State.snapRecord_only (s : State) (i : Fin 65) (zero : Bool) : ∃ n, State.Only n s (s.snapRecord i zero) := by
  unfold State.snapRecord
  split
  · exact ⟨_, s.only_modStream_same _ _ rfl rfl rfl⟩
  · have device : s.Beside { s with tally := { s.tally with deviceChanged := zero && s.deviceCounted } } :=
      s.beside_tally _
    dsimp only
    split
    · refine ⟨0, (device.trans ?_).only 0⟩
      apply State.Beside.of_eq <;> rfl
    · exact ⟨0, device.only 0⟩

/-! ### The commands on a stream -/

/-- The outcome, if there is one, is a change of one stream, after which the stop sequence may go on. -/
def State.onlyStream (s : State) (o : Host.Outcome State Fault Refusal) : Prop :=
  ∀ t, o = .next t → ∃ n u, State.Only n s u ∧ (t = u ∨ t = u.advanceStop)

theorem State.Only.next {n : StreamId} {s u : State} (h : State.Only n s u) : s.onlyStream (.next u) := by
  rintro t ⟨⟩
  exact ⟨n, u, h, .inl rfl⟩

theorem State.Only.advance {n : StreamId} {s u : State} (h : State.Only n s u) :
    s.onlyStream (.next u.advanceStop) := by
  rintro t ⟨⟩
  exact ⟨n, u, h, .inr rfl⟩

theorem State.onlyStream_self (s : State) : s.onlyStream (.next s) := (State.Only.refl 0 s).next

theorem State.Beside.onlyStream {s u : State} (h : s.Beside u) : s.onlyStream (.next u) := (h.only 0).next

theorem execHeadExpiry_only (n : StreamId) (s : State) : s.onlyStream (execHeadExpiry n s) := by
  unfold execHeadExpiry
  split
  · exact s.onlyStream_self
  · split
    · exact (((s.beside_cancel n .head).only n).trans (State.only_headExpiry ‹_›)).next
    · rintro t ⟨⟩

theorem execSilenceExpiry_only (n : StreamId) (s : State) : s.onlyStream (execSilenceExpiry n s) := by
  unfold execSilenceExpiry
  split
  · exact s.onlyStream_self
  · exact (((s.beside_cancel n _).only n).trans (State.only_silenceExpiry _ n)).next

theorem execAgeExpiry_only (n : StreamId) (s : State) : s.onlyStream (execAgeExpiry n s) := by
  unfold execAgeExpiry
  split
  · exact s.onlyStream_self
  · exact (((s.beside_cancel n _).only n).trans (State.only_beginPageClose _ n _ _ _)).next

/-- The held burst leaves the Acceptance Unit (R119). -/
theorem State.beside_offerEnds (s : State) (h : HeldFrame) :
    s.Beside (({ s with acceptance := { s.acceptance with held := none } } : State).releaseStaging h.link h.index) :=
  (s.beside_acceptance _ (by exact id) (by exact id)).trans (State.beside_releaseStaging _ _ _)

theorem execOffer_only (s : State) : s.onlyStream (execOffer s) := by
  unfold execOffer
  split
  · split
    · exact s.onlyStream_self
    · split
      · exact (((s.beside_offerEnds _).only _).trans (State.only_takeOffer ‹_›)).advance
      · rintro t ⟨⟩
  · exact s.onlyStream_self

theorem execOpenStream_only (s : State) : s.onlyStream (execOpenStream s) := by
  unfold execOpenStream
  split
  · split
    · split
      · exact (s.beside_answer _ _ _).onlyStream
      · split
        · exact ((s.only_openStream _ _).beside (State.beside_answer _ _ _ _)).next
        · exact (s.beside_answer _ _ _).onlyStream
    · exact s.onlyStream_self
  · exact s.onlyStream_self

theorem execDrainClose_only (s : State) : s.onlyStream (execDrainClose s) := by
  unfold execDrainClose
  split
  · split
    · split
      · exact (s.beside_answer _ _ _).onlyStream
      · exact (s.beside_answer _ _ _).onlyStream
      all_goals exact (s.only_drainClose _ _).next
    · exact s.onlyStream_self
  · exact s.onlyStream_self

theorem execImmediateClose_only (s : State) : s.onlyStream (execImmediateClose s) := by
  unfold execImmediateClose
  split
  · split
    · split
      · exact (s.beside_answer _ _ _).onlyStream
      · split
        · exact (s.beside_answer _ _ _).onlyStream
        · exact (((s.beside_setActivity _ (by simp)).only _).trans (State.only_closeNow _ _ _)).next
    · exact s.onlyStream_self
  · exact s.onlyStream_self

theorem execAlterStream_only (s : State) : s.onlyStream (execAlterStream s) := by
  unfold execAlterStream
  split
  · split
    · split
      · exact (s.beside_answer _ _ _).onlyStream
      · exact ((s.only_alterStream _ _).beside (State.beside_answer _ _ _ _)).next
    · exact s.onlyStream_self
  · exact s.onlyStream_self

/-- The supply takes no more addresses than it has room for (R77). -/
theorem execAttachPages_only (s : State) : s.onlyStream (execAttachPages s) := by
  unfold execAttachPages
  split
  · split
    · split
      · exact (s.beside_answer _ _ _).onlyStream
      · refine State.Only.next ((s.only_setSupply _ _ (fun h => ?_)).beside (State.beside_answer _ _ _ _))
        rw [List.length_append, List.length_take, Config.supplyRoom]
        omega
    · exact s.onlyStream_self
  · exact s.onlyStream_self

theorem execFlushPage_only (s : State) : s.onlyStream (execFlushPage s) := by
  unfold execFlushPage
  split
  · split
    · split
      · exact (s.beside_answer _ _ _).onlyStream
      · split
        · exact ((s.only_beginPageClose _ _ _ _).beside (State.beside_setActivity _ _ (by simp))).next
        · exact (s.beside_answer _ _ _).onlyStream
    · exact s.onlyStream_self
  · exact s.onlyStream_self

theorem execRecordOperation_only (s : State) : s.onlyStream (execRecordOperation s) := by
  unfold execRecordOperation
  split
  · exact (s.only_beginRecord _ (State.serves_of_laneTurn ‹_›).2.1).next
  · exact s.onlyStream_self

theorem execRecordWriteComplete_only (s : State) : s.onlyStream (execRecordWriteComplete s) := by
  unfold execRecordWriteComplete
  split
  · rename_i n _ _ hop
    split
    · refine State.Only.advance (((s.beside_land _).only n).trans (State.only_recordWritten _ n ?_))
      rw [(s.beside_land _).laneOp, hop]
      rintro o ⟨⟩
      rfl
    · exact s.onlyStream_self
  · exact s.onlyStream_self

theorem execPageCloseIssue_only (s : State) : s.onlyStream (execPageCloseIssue s) := by
  unfold execPageCloseIssue
  split
  · rename_i n hn
    refine State.Only.next ((s.only_issueClose n).trans (State.only_beginOp_free _ n _ _ ?_ rfl))
    rw [State.issueClose_lane]
    exact (State.serves_of_laneTurn hn).2.1
  · exact s.onlyStream_self

theorem execPageCloseComplete_only (s : State) : s.onlyStream (execPageCloseComplete s) := by
  unfold execPageCloseComplete
  split
  · rename_i n _ hop
    split
    · refine State.Only.advance (((s.beside_land _).only n).trans (State.only_closeFinished _ n ?_))
      rw [(s.beside_land _).laneOp, hop]
      rintro o ⟨⟩
      rfl
    · exact s.onlyStream_self
  · split
    · exact (((s.beside_land _).only _).trans (State.only_fullFinished _ _ _)).advance
    · exact s.onlyStream_self
  · exact s.onlyStream_self

theorem execReturnIssue_only (s : State) : s.onlyStream (execReturnIssue s) := by
  unfold execReturnIssue
  split
  · rename_i n hn
    exact (((s.only_setSupply n [] (fun _ => Nat.zero_le _)).trans
      (State.only_modStream_same _ n _ rfl rfl rfl)).trans
        (State.only_beginOp_free _ n _ _ (State.serves_of_laneTurn hn).2.1 rfl)).next
  · exact s.onlyStream_self

theorem execReturnComplete_only (s : State) : s.onlyStream (execReturnComplete s) := by
  unfold execReturnComplete
  split
  · rename_i n _ hop
    split
    · refine State.Only.advance ((((s.beside_land _).only n).trans (State.only_laneFree _ n ?_)).trans
        (State.only_closeStep4 _ n _))
      rw [(s.beside_land _).laneOp, hop]
      rintro o ⟨⟩
      rfl
    · exact s.onlyStream_self
  · exact s.onlyStream_self

theorem execTallySnapshot_only (s : State) : s.onlyStream (execTallySnapshot s) := by
  unfold execTallySnapshot
  split
  · split
    · rename_i i m _
      obtain ⟨n, hn⟩ := s.snapRecord_only i m.zero
      exact (hn.beside (State.beside_tally _ _)).next
    · exact s.onlyStream_self
  · exact s.onlyStream_self

/-- A command on a stream changes that stream and its pages only. -/
theorem exec_only (c : Instr) (s : State) (h : isStream c = true) : s.onlyStream (exec c s) := by
  cases c with
  | headExpiry n => exact execHeadExpiry_only n s
  | silenceExpiry n => exact execSilenceExpiry_only n s
  | ageExpiry n => exact execAgeExpiry_only n s
  | offer => exact execOffer_only s
  | openStream => exact execOpenStream_only s
  | drainClose => exact execDrainClose_only s
  | immediateClose => exact execImmediateClose_only s
  | alterStream => exact execAlterStream_only s
  | attachPages => exact execAttachPages_only s
  | flushPage => exact execFlushPage_only s
  | recordOperation => exact execRecordOperation_only s
  | recordWriteComplete => exact execRecordWriteComplete_only s
  | pageCloseIssue => exact execPageCloseIssue_only s
  | pageCloseComplete => exact execPageCloseComplete_only s
  | returnIssue => exact execReturnIssue_only s
  | returnComplete => exact execReturnComplete_only s
  | tallySnapshot => exact execTallySnapshot_only s
  | _ => cases h

end Sys2Proof.Machine
end

section
/-! The capacities of the part, and the blocks at rest in IDLE and STARTING (O59). -/

namespace Sys2Proof.Machine

open Sys2Proof

/-! ### The capacities -/

/-- Entry to STARTING leaves the blocks as they are, but for the Memory Port. -/
theorem State.enterStarting_blocks (s : State) :
    s.enterStarting.streams = s.streams ∧ s.enterStarting.pages = s.pages ∧ s.enterStarting.store = s.store
      ∧ s.enterStarting.lane = s.lane ∧ s.enterStarting.acceptance = s.acceptance
      ∧ s.enterStarting.walker = s.walker := by
  unfold State.enterStarting
  dsimp only
  split
  · exact ⟨rfl, rfl, rfl, rfl, rfl, rfl⟩
  · simp only [State.enterFaulted, State.raise]
    rw [State.abandonFlight_frame]
    exact ⟨rfl, rfl, rfl, rfl, rfl, rfl⟩

/-- A property that every change of one stream keeps is an invariant of the part. -/
theorem State.Kept.of_only {inv : State → Prop} (fresh : ∀ {s : State}, s.Fresh → inv s)
    (starting : ∀ {s : State}, inv s → inv s.enterStarting)
    (only : ∀ {n : StreamId} {s t : State}, State.Only n s t → inv s → inv t) : State.Kept inv where
  beside := fun h => only (h.only 0)
  fresh := fresh
  starting := starting
  closeNow := fun _ _ => only (State.only_closeNow _ _ _)
  command := fun {c s t} hc e h => by
    obtain ⟨n, u, hu, ht⟩ := exec_only c s hc t e
    exact ⟨u, only hu h, ht⟩

theorem State.kept_straysBounded : State.Kept State.straysBounded :=
  .of_only
    (fun {s} h => by
      unfold State.straysBounded
      rw [h.acceptance]
      exact Nat.zero_le 8)
    (fun {s} h => by
      obtain ⟨-, -, -, -, ha, -⟩ := s.enterStarting_blocks
      unfold State.straysBounded
      rw [ha]
      exact h)
    (fun o => o.strays)

theorem State.kept_routesUnique : State.Kept State.routesUnique :=
  .of_only
    (fun {s} h i j a b hi => by simp [h.acceptance, Acceptance.reset] at hi)
    (fun {s} h => by
      obtain ⟨-, -, -, -, ha, -⟩ := s.enterStarting_blocks
      unfold State.routesUnique
      rw [ha]
      exact h)
    (fun o => o.routes)

/-- A property of every stream and its pages that a change of one stream keeps for that stream. -/
theorem State.Kept.of_stream {p : Stream → PageState → Prop} (reset : p .reset .reset)
    (only : ∀ {n : StreamId} {s t : State}, State.Only n s t → p (s.stream n) (s.page n) → p (t.stream n) (t.page n)) :
    State.Kept (fun s => ∀ n, p (s.stream n) (s.page n)) :=
  .of_only
    (fun h n => by
      rw [h.stream, h.page]
      exact reset)
    (fun {s} h n => by
      obtain ⟨hs, hp, -⟩ := s.enterStarting_blocks
      unfold State.stream State.page
      rw [hs, hp]
      exact h n)
    (fun {n} _ _ o h m => by
      by_cases hm : m = n
      · subst hm
        exact only o (h m)
      · rw [o.stream m hm, o.page m hm]
        exact h m)

theorem State.kept_supplyBounded : State.Kept State.supplyBounded :=
  .of_stream (p := fun _ pg => pg.supply.length ≤ 16) (Nat.zero_le _) (fun o => o.supply)

theorem State.kept_queueBounded : State.Kept State.queueBounded :=
  .of_stream (p := fun st _ => st.queue.length ≤ st.config.q) (Nat.zero_le _) (fun o => o.queue)

theorem State.kept_earlyRunBounded : State.Kept State.earlyRunBounded :=
  .of_stream (p := fun st _ => st.earlyRun ≤ 15) (Nat.zero_le _) (fun o => o.earlyRun)

/-! ### The blocks at rest -/

/-- IDLE and STARTING: the part has not begun to work. -/
def GlobalState.atRest (g : GlobalState) : Prop := g = .idle ∨ g = .starting

theorem State.rests_of_not_atRest {s : State} (h : ¬ s.global.atRest) : s.restsOutsideWork :=
  ⟨fun e => absurd (.inl e) h, fun e => absurd (.inr e) h⟩

theorem GlobalState.not_working_of_atRest {g : GlobalState} (h : g.atRest) : g.working = false := by
  obtain rfl | rfl := h <;> rfl

theorem State.rests_resetBlocks (s : State) (run : Bool) (fr : FaultReason) (fa root : Word) (cause enable : BitVec 7)
    (held : Bool) : State.restsOutsideWork { s.resetBlocks with
      global := .idle, run := run, faultReason := fr, faultAddr := fa, root := root, cause := cause, enable := enable,
      resetHeld := held } :=
  ⟨fun _ => by simp only [State.resetBlocks], fun e => nomatch e⟩

/-- The registers and the command queue are no blocks. -/
theorem State.rests_registers {s : State} (h : s.restsOutsideWork) (run : Bool) (cause enable : BitVec 7) (held : Bool)
    (pending : List Instr) : State.restsOutsideWork { s with
      run := run, cause := cause, enable := enable, resetHeld := held, pending := pending } := by
  refine ⟨fun e => ?_, fun e => ?_⟩
  · exact congrArg (fun x : State => { x with
      run := run, cause := cause, enable := enable, resetHeld := held, pending := pending }) (h.1 e)
  · obtain ⟨k, hk⟩ := h.2 e
    exact ⟨k, congrArg (fun x : State => { x with
      run := run, cause := cause, enable := enable, resetHeld := held, pending := pending }) hk⟩

/-- From a part at rest entry to STARTING begins the root read (R173, log 9). -/
theorem State.rests_enterStarting {s : State} (h : s = s.resetBlocks) : s.enterStarting.restsOutsideWork := by
  unfold State.enterStarting
  dsimp only
  split
  · refine ⟨fun e => (nomatch e), fun _ => ⟨0, ?_⟩⟩
    rw [h]
    simp only [State.resetBlocks, Port.reset]
  · exact State.rests_of_not_atRest (by simp [State.enterFaulted, State.raise, GlobalState.atRest])

theorem State.stop3_global (s : State) : s.stop3.global.atRest → s.stop3.global = s.global := by
  have fold (l : List StreamId) (u : State) : (l.foldl State.stopStream u).global = u.global := by
    induction l generalizing u with
    | nil => rfl
    | cons n l ih => exact (ih _).trans (u.closingFrame_stopStream n).global
  unfold State.stop3
  split
  · rw [fold]
    rintro (e | e) <;> cases e
  · exact fun _ => rfl

/-- The stop sequence of a part that works ends at rest, if it ends. -/
theorem State.rests_advanceStop {s : State} (h : ¬ s.global.atRest) : s.advanceStop.restsOutsideWork := by
  have h1 : ¬ s.stop1.global.atRest := by
    unfold State.stop1
    split
    · simp [GlobalState.atRest]
    · exact h
  have h2 : ¬ s.stop1.stop2.global.atRest := by
    unfold State.stop2
    split
    · rw [(State.linkFrame_linkOff _ .b).global, (State.linkFrame_linkOff _ .a).global]
      simp [GlobalState.atRest]
    · exact h1
  have h3 : ¬ s.stop1.stop2.stop3.global.atRest := fun e => h2 (State.stop3_global _ e ▸ e)
  have h4 : ¬ s.stop1.stop2.stop3.stop4.global.atRest := by
    unfold State.stop4
    split
    · simp [GlobalState.atRest]
    · exact h3
  unfold State.advanceStop State.stop5
  split
  · dsimp only
    split
    · exact State.rests_enterStarting (by simp only [State.enterIdle, State.raise, State.resetBlocks])
    · exact State.rests_resetBlocks _ _ _ _ _ _ _ _
  · exact State.rests_of_not_atRest h4

theorem State.rests_nudge {s : State} (h : s.restsOutsideWork) : s.nudge.restsOutsideWork := by
  by_cases ha : s.global = .active
  · refine State.rests_of_not_atRest (fun e => ?_)
    have := s.beside_nudge.rest e
    rw [this, ha] at e
    rcases e with e | e <;> cases e
  · unfold State.nudge
    split
    · exact absurd ‹_› ha
    all_goals exact h

theorem State.rests_writeRun {s : State} (h : s.restsOutsideWork) (v : Bool) : (s.writeRun v).restsOutsideWork := by
  have h1 : State.restsOutsideWork { s with run := v } := State.rests_registers h v _ _ _ _
  unfold State.writeRun
  dsimp only
  split
  · rename_i hg
    split
    · exact State.rests_enterStarting (h1.1 hg)
    · exact h1
  · split
    · exact h1
    · exact State.rests_advanceStop (by simp [GlobalState.atRest])
  · split
    · exact h1
    · exact State.rests_resetBlocks _ _ _ _ _ _ _ _
  · exact h1
  · exact h1

theorem State.rests_softReset (s : State) : s.softReset.restsOutsideWork :=
  State.rests_resetBlocks s.abandonFlight _ _ _ _ _ _ _

/-- A ROOT write is stored in IDLE only, so that the root read of STARTING is of ROOT (R172). -/
theorem State.rests_writeRoot {s : State} (h : s.restsOutsideWork) (v : Word) : (s.writeRoot v).restsOutsideWork := by
  unfold State.writeRoot
  split
  · rename_i hg
    exact ⟨fun _ => congrArg (fun x : State => { x with root := v }) (h.1 hg),
      fun e => absurd (hg.symm.trans e) (by simp)⟩
  · exact h

theorem State.rests_writeWindow {s : State} (h : s.restsOutsideWork) (offset : BitVec 5) (size : AccessSize)
    (v : Word) : (s.writeWindow offset size v).restsOutsideWork := by
  unfold State.writeWindow
  split
  · exact h
  · split
    · exact h
    · exact h
    · split
      · unfold State.writeControl
        split
        · exact s.rests_softReset
        · dsimp only
          split
          · exact State.rests_nudge (State.rests_writeRun h _)
          · exact State.rests_writeRun h _
      · exact State.rests_writeRoot h v
      · exact State.rests_registers h _ _ _ _ _
      · exact State.rests_registers h _ _ _ _ _
      · exact h

/-- The commands whose events occur in a part that does not work too: the registers, the resets, the root read and a
failure of it. -/
def occursAtRest : Instr → Bool
  | .pinResetRelease | .rootReadComplete _ | .busError | .busTimeout => true
  | c => isControl c

theorem isControl_of_not_occursAtRest {c : Instr} (h : occursAtRest c = false) : isControl c = false := by
  cases c with
  | pinResetRelease | rootReadComplete | busError | busTimeout => rfl
  | _ => exact h

/-- Every other command changes nothing while the part does not work (R174 to R176). -/
theorem exec_of_not_working (c : Instr) (s : State) (hw : s.global.working = false) (hc : occursAtRest c = false) :
    exec c s = .next s := by
  have flight : s.inFlight = none := by simp [State.inFlight, hw]
  have turn (w : Work) : s.laneTurn w = none := by simp [State.laneTurn, hw]
  have expired (n : StreamId) (k : DeadlineKind) : s.expired n k = none := by simp [State.expired, hw]
  have symbol (l : LinkId) (f g : State → State) : s.symbol l f g = s := by simp [State.symbol, hw]
  cases c with
  | headExpiry n => simp [exec, execHeadExpiry, expired]
  | silenceExpiry n => simp [exec, execSilenceExpiry, expired]
  | ageExpiry n => simp [exec, execAgeExpiry, expired]
  | lineLoss l => simp [exec, execLineLoss, State.lineLoss, hw]
  | idleSymbol | startSymbol | dataSymbol | endSymbol | violationSymbol =>
    exact congrArg Host.Outcome.next (symbol _ _ _)
  | memoryGrant => simp [exec, execMemoryGrant, hw]
  | tick => simp [exec, execTick, hw]
  | sweepTimerExpiry => simp [exec, execSweepTimerExpiry, hw]
  | tallyTimerExpiry => simp [exec, execTallyTimerExpiry, hw]
  | take => simp [exec, execTake, hw]
  | offer => simp [exec, execOffer, hw]
  | openStream => simp [exec, execOpenStream, hw]
  | drainClose => simp [exec, execDrainClose, hw]
  | immediateClose => simp [exec, execImmediateClose, hw]
  | alterStream => simp [exec, execAlterStream, hw]
  | attachPages => simp [exec, execAttachPages, hw]
  | flushPage => simp [exec, execFlushPage, hw]
  | setRoute => simp [exec, execSetRoute, hw]
  | clearRoute => simp [exec, execClearRoute, hw]
  | setLink => simp [exec, execSetLink, hw]
  | writeTally => simp [exec, execWriteTally, hw]
  | readStrays => simp [exec, execReadStrays, hw]
  | barrier => simp [exec, execBarrier, hw]
  | memoryResponse => simp [exec, execMemoryResponse, flight]
  | orderFetchComplete r => simp [exec, execOrderFetchComplete, flight]
  | linkReadComplete v => simp [exec, execLinkReadComplete, flight]
  | outcomeStateWriteComplete => simp [exec, execOutcomeStateWriteComplete, flight]
  | strayEntryWriteComplete => simp [exec, execStrayEntryWriteComplete, flight]
  | recordWriteComplete => simp [exec, execRecordWriteComplete, flight]
  | pageCloseComplete => simp [exec, execPageCloseComplete, flight]
  | returnComplete => simp [exec, execReturnComplete, flight]
  | tallyWriteComplete => simp [exec, execTallyWriteComplete, flight]
  | recordOperation => simp [exec, execRecordOperation, turn]
  | pageCloseIssue => simp [exec, execPageCloseIssue, turn]
  | returnIssue => simp [exec, execReturnIssue, turn]
  | tallySnapshot => simp [exec, execTallySnapshot, hw]
  | pinResetRelease | rootReadComplete | busError | busTimeout | run | nudge | srst | causeClear | enableWrite
  | rootWrite | registerWriteIgnored | pinReset => cases hc

/-- A failed transaction makes the part FAULTED, if it can fail. -/
theorem State.rests_flightFails {s : State} (h : s.restsOutsideWork) (r : FaultReason) :
    (s.flightFails r).restsOutsideWork := by
  unfold State.flightFails
  split
  · split
    · exact State.rests_of_not_atRest (by simp [State.enterFaulted, State.raise, GlobalState.atRest])
    · exact h
  · exact h

/-- A completed root read leads to ACTIVE, STOPPING or FAULTED (R173, R174). -/
theorem rests_rootReadComplete (r : BitVec 256) {s t : State} (h : s.restsOutsideWork)
    (e : execRootReadComplete r s = .next t) : t.restsOutsideWork := by
  unfold execRootReadComplete at e
  split at e
  · split at e
    · dsimp only at e
      split at e
      · cases e
        unfold State.enterActive
        dsimp only
        split
        · exact State.rests_of_not_atRest (by simp [GlobalState.atRest])
        · exact State.rests_advanceStop (by simp [GlobalState.atRest])
      · cases e
        exact State.rests_of_not_atRest (by simp [State.enterFaulted, State.raise, GlobalState.atRest])
    · cases e
      exact h
  · cases e
    exact h

/-- In IDLE and STARTING a reference clock period counts the periods of the root read only. -/
theorem State.rests_clockPeriod {s : State} (h : s.restsOutsideWork) : s.clockPeriod.restsOutsideWork := by
  by_cases hr : s.global.atRest
  · have hw := GlobalState.not_working_of_atRest hr
    have divider : s.countDivider = s := by simp [State.countDivider, hw]
    have line (l : LinkId) : s.countLine l = s := by simp [State.countLine, hw]
    unfold State.clockPeriod
    split
    · rename_i ht
      have fails (u : State) (hf : u.port = s.port) (hg : u.global = s.global) :
          (u.flightFails .busTimeout).restsOutsideWork := by
        rcases hr with hi | hs
        · have := congrArg (fun x => x.port.flight) (h.1 hi)
          simp [State.timeoutNow, State.resetBlocks, Port.reset, this] at ht
        · obtain ⟨k, hk⟩ := h.2 hs
          have := congrArg (fun x => x.port.flight) hk
          simp only at this
          refine State.rests_of_not_atRest ?_
          simp [State.flightFails, hf, hg, hs, this, GlobalState.canFault, State.enterFaulted, State.raise,
            GlobalState.atRest]
      dsimp only
      split
      · exact fails _ rfl rfl
      · refine fails _ ?_ ?_
        · rw [(State.linkFrame_countLine _ .b).port, (State.linkFrame_countLine _ .a).port]
          simp [State.countDivider, hw]
        · rw [(State.linkFrame_countLine _ .b).global, (State.linkFrame_countLine _ .a).global]
          simp [State.countDivider, hw]
    · rw [divider, line, line]
      refine ⟨fun e => ?_, fun e => ?_⟩
      · have hs := h.1 e
        unfold State.countResponse
        rw [hs]
        simp only [State.resetBlocks, Port.reset, Option.map_none]
      · obtain ⟨k, hk⟩ := h.2 e
        refine ⟨k + 1, ?_⟩
        unfold State.countResponse
        rw [hk]
        simp only [State.resetBlocks, Option.map_some]
  · exact State.rests_of_not_atRest (fun e => hr (s.beside_clockPeriod.rest e ▸ e))

theorem State.rests_exec {c : Instr} {s t : State} (h : s.restsOutsideWork) (e : exec c s = .next t) :
    t.restsOutsideWork := by
  by_cases hc : occursAtRest c = true
  · cases c with
    | pinResetRelease =>
      cases e
      exact State.rests_registers h _ _ _ _ _
    | rootReadComplete r => exact rests_rootReadComplete r h e
    | busError | busTimeout =>
      cases e
      exact State.rests_flightFails h _
    | pinReset =>
      cases e
      exact State.rests_resetBlocks s.abandonFlight _ _ _ _ _ _ _
    | run | nudge | srst | causeClear | enableWrite | rootWrite | registerWriteIgnored =>
      cases e
      exact State.rests_writeWindow h _ _ _
    | _ => cases hc
  rw [Bool.not_eq_true] at hc
  by_cases hr : s.global.atRest
  · rw [exec_of_not_working c s (GlobalState.not_working_of_atRest hr) hc] at e
    cases e
    exact h
  · have after (u : State) (rest : u.global = .idle ∨ u.global = .starting → u.global = s.global)
        (ht : t = u ∨ t = u.advanceStop) : t.restsOutsideWork := by
      have hu : ¬ u.global.atRest := fun e => hr (rest e ▸ e)
      obtain rfl | rfl := ht
      · exact State.rests_of_not_atRest hu
      · exact State.rests_advanceStop hu
    by_cases hs : isStream c = true
    · obtain ⟨n, u, hu, ht⟩ := exec_only c s hs t e
      exact after u hu.rest ht
    · have hctl := isControl_of_not_occursAtRest hc
      obtain ⟨u, hu, he⟩ := exec_beside c s hctl (by simpa using hs)
      rw [e] at he
      exact after u hu.rest (he.imp (fun h => Host.Outcome.next.inj h) (fun h => Host.Outcome.next.inj h))

theorem State.stepKeeps_rests : StepKeeps State.restsOutsideWork := by
  intro s t h e
  unfold step at e
  split at e
  · cases e
    exact State.rests_clockPeriod h
  · exact State.rests_exec (State.rests_registers h _ _ _ _ _) e

/-- Settles O59: each capacity is kept by every change of one stream or beside the streams; the blocks rest because no
command of a part that does not work touches them. -/
theorem stepKeepsCapacities : Obligations.StepKeepsCapacities :=
  ⟨State.kept_straysBounded.step, State.kept_supplyBounded.step, State.kept_queueBounded.step,
    State.kept_earlyRunBounded.step, State.kept_routesUnique.step, State.stepKeeps_rests⟩

end Sys2Proof.Machine
end

section
/-! SUPPORT. The laws of windows, closing sequences and buffers, stream by stream: `State.Orderly` says of each stream what
the manual says of all, and a change of one stream keeps it when that stream stays in order and its account with the Burst
Store balances. -/

namespace Sys2Proof.Machine

open Sys2Proof

/-! ### The laws of one stream -/

/-- The window and the queue of a stream (R1, R5, R24, R76). -/
structure Stream.InOrder (st : Stream) : Prop where
  slots : st.window.length = st.config.w
  sized : st.state ≠ .closed → st.config.sized
  placed : ∀ (o : Nat) b, st.window[o]? = some (some b) → st.offset b.sequence = o
  held : ∀ b, some b ∈ st.window → st.state = .running ∨ st.state = .draining
  queue : st.queue.length ≤ st.config.q

/-- The closing sequence and the pages of a stream, given whether the lane writes a record of it or returns its supply
(R12, R13, R78, R86, R94). -/
structure ClosingOrder (st : Stream) (pg : PageState) (writing : Bool) (giving : Prop) : Prop where
  closed : st.state = .closed → st.closing = none ∧ st.queue = [] ∧ pg.supply = [] ∧ pg.current = none
    ∧ pg.closingPage = none ∧ writing = false
  draining : ∀ c, st.closing = some c → st.state = .draining ∧ ∀ x ∈ st.window, x = none
  waitLane : ∀ c, st.closing = some c → c.phase = .waitLane →
    st.queue = [] ∨ (st.queue.length = 1 ∧ writing = true)
  later : ∀ c, st.closing = some c → c.phase ≠ .waitLane → st.queue = [] ∧ pg.current = none ∧ writing = false
  returns : ∀ c, st.closing = some c → c.phase = .returnDue ∨ c.phase = .returning →
    pg.closingPage = none ∧ (c.phase = .returning → pg.supply = [])
  giveBack : giving → ∃ c, st.closing = some c ∧ c.phase = .returning
  onePage : pg.current = none ∨ pg.closingPage = none

/-- The lane returns the supply of the stream (R94). -/
def State.giving (s : State) (n : StreamId) : Prop := s.lane.op = some (.giveBack n)

/-- The laws of windows, closing sequences and buffers, stream by stream. -/
structure State.Orderly (s : State) : Prop where
  stream : ∀ n, (s.stream n).InOrder
  closing : ∀ n, ClosingOrder (s.stream n) (s.page n) (s.recordInFlight n) (s.giving n)
  request : ∀ ref n c, s.walker.activity = .request ref (.openStream n c) → c.sized
  buffers : (s.store.pool ++ (List.finRange 64).flatMap (fun n => (s.stream n).heldBuffers)).Perm (List.finRange 512)
  reserved : s.store.reserved = ((List.finRange 64).map (fun n => (s.stream n).reservation)).sum
  total : s.store.reserved ≤ 512

theorem State.lawful.orderly {s : State} (h : s.lawful) : s.Orderly where
  stream := fun n => {
    slots := h.windows.slots n
    sized := h.windows.sized n
    placed := h.windows.placed n
    held := h.windows.held n
    queue := h.store.queues n }
  closing := fun n => {
    closed := h.closings.closed n
    draining := h.closings.draining n
    waitLane := h.closings.waitLane n
    later := h.closings.later n
    returns := h.closings.returns n
    giveBack := h.closings.giveBack n
    onePage := h.closings.onePage n }
  request := h.windows.requestSized
  buffers := h.store.buffers
  reserved := h.store.reserved
  total := h.store.total

theorem State.Orderly.windowLaw {s : State} (h : s.Orderly) : s.windowLaw where
  slots := fun n => (h.stream n).slots
  sized := fun n => (h.stream n).sized
  requestSized := h.request
  placed := fun n => (h.stream n).placed
  held := fun n => (h.stream n).held

theorem State.Orderly.closingLaw {s : State} (h : s.Orderly) : s.closingLaw where
  closed := fun n => (h.closing n).closed
  draining := fun n => (h.closing n).draining
  waitLane := fun n => (h.closing n).waitLane
  later := fun n => (h.closing n).later
  returns := fun n => (h.closing n).returns
  giveBack := fun n => (h.closing n).giveBack
  onePage := fun n => (h.closing n).onePage

/-! ### Buffers held -/

theorem length_recordBuffers_le (q : List QueueRecord) :
    (q.flatMap (fun r => r.content.buffers)).length ≤ q.length := by
  induction q with
  | nil => exact Nat.le_refl 0
  | cons r q ih =>
    have : r.content.buffers.length ≤ 1 := by cases r.content <;> simp [RecordContent.buffers]
    simp only [List.flatMap_cons, List.length_append, List.length_cons]
    omega

theorem Stream.length_heldBuffers (st : Stream) : st.heldBuffers.length =
    (st.window.filterMap id).length + (st.queue.flatMap (fun r => r.content.buffers)).length := by
  simp [Stream.heldBuffers]

/-- A stream holds at most W + Q buffers (R19). -/
theorem Stream.InOrder.bounded {st : Stream} (h : st.InOrder) : st.heldBuffers.length ≤ st.config.w + st.config.q := by
  rw [Stream.length_heldBuffers]
  have h1 := List.length_filterMap_le id st.window
  have h2 := length_recordBuffers_le st.queue
  have h3 := h.slots
  have h4 := h.queue
  omega

/-- A stream with an empty slot holds less than W + Q buffers. -/
theorem Stream.InOrder.bounded_of_empty_slot {st : Stream} (h : st.InOrder) (e : none ∈ st.window) :
    st.heldBuffers.length < st.config.w + st.config.q := by
  rw [Stream.length_heldBuffers]
  have h1 : (st.window.filterMap id).length < st.window.length :=
    List.length_filterMap_lt_length_iff_exists.2 ⟨none, e, rfl⟩
  have h2 := length_recordBuffers_le st.queue
  have h3 := h.slots
  have h4 := h.queue
  omega

theorem filterMap_eq_nil_of_empty {w : List (Option Burst)} (h : ∀ b, some b ∉ w) : w.filterMap id = [] := by
  rw [List.filterMap_eq_nil_iff]
  intro x hx
  cases x with
  | none => rfl
  | some b => exact absurd hx (h b)

/-- A CLOSED stream holds no buffer. -/
theorem State.Orderly.heldBuffers_of_closed {s : State} (h : s.Orderly) {n : StreamId}
    (hc : (s.stream n).state = .closed) : (s.stream n).heldBuffers = [] := by
  obtain ⟨-, hq, -⟩ := (h.closing n).closed hc
  have hw : (s.stream n).window.filterMap id = [] := filterMap_eq_nil_of_empty fun b hb => by
    have := (h.stream n).held b hb
    simp [hc] at this
  simp only [Stream.heldBuffers, hw, hq, List.map_nil, List.flatMap_nil, List.append_nil]

theorem State.Orderly.held_le_reservation {s : State} (h : s.Orderly) (n : StreamId) :
    (s.stream n).heldBuffers.length ≤ (s.stream n).reservation := by
  unfold Stream.reservation
  split
  · rw [h.heldBuffers_of_closed ‹_›]
    exact Nat.le_refl 0
  · exact (h.stream n).bounded

theorem State.Orderly.storeLaw {s : State} (h : s.Orderly) : s.storeLaw where
  buffers := h.buffers
  queues := fun n => (h.stream n).queue
  bounded := fun n => (h.stream n).bounded
  reserved := h.reserved
  total := h.total

/-- The pool holds a buffer for a stream that holds less than its reservation (R18, R19): else the streams would hold
all 512 buffers, more than the reservations' total. -/
theorem State.Orderly.pool_cons {s : State} (h : s.Orderly) {n : StreamId}
    (hl : (s.stream n).heldBuffers.length < (s.stream n).reservation) : ∃ b pool, s.store.pool = b :: pool := by
  cases hp : s.store.pool with
  | cons b pool => exact ⟨b, pool, rfl⟩
  | nil =>
    have hlen := h.buffers.length_eq
    rw [hp, List.nil_append, List.length_flatMap, List.length_finRange] at hlen
    have hlt : ((List.finRange 64).map (fun m => (s.stream m).heldBuffers.length)).sum
        < ((List.finRange 64).map (fun m => (s.stream m).reservation)).sum :=
      List.sum_lt_sum _ _ (fun m _ => h.held_le_reservation m) ⟨n, List.mem_finRange n, hl⟩
    rw [hlen, ← h.reserved] at hlt
    exact absurd h.total (Nat.not_le.2 hlt)

/-! ### A change of one stream -/

/-- The account of a stream with the Burst Store balances over a change (R16, R17). -/
structure State.Balances (n : StreamId) (s t : State) : Prop where
  buffers : (t.store.pool ++ (t.stream n).heldBuffers).Perm (s.store.pool ++ (s.stream n).heldBuffers)
  reserved : t.store.reserved + (s.stream n).reservation = s.store.reserved + (t.stream n).reservation
  total : s.store.reserved ≤ 512 → t.store.reserved ≤ 512

theorem flatMap_finRange_perm {α : Type} (f : StreamId → List α) (n : StreamId) :
    ((List.finRange 64).flatMap f).Perm (f n ++ ((List.finRange 64).erase n).flatMap f) :=
  (List.perm_cons_erase (List.mem_finRange n)).flatMap_right f

theorem ne_of_mem_erase_finRange {n m : StreamId} (h : m ∈ (List.finRange 64).erase n) : m ≠ n :=
  ((List.nodup_finRange 64).mem_erase_iff.1 h).1

/-- A change of one stream keeps the laws when the stream stays in order and its account balances. -/
theorem State.Orderly.only {n : StreamId} {s t : State} (h : s.Orderly) (o : State.Only n s t)
    (b : State.Balances n s t) (stream : (t.stream n).InOrder)
    (closing : ClosingOrder (t.stream n) (t.page n) (t.recordInFlight n) (t.giving n)) : t.Orderly where
  stream := fun m => by
    by_cases hm : m = n
    · exact hm ▸ stream
    · rw [o.stream m hm]
      exact h.stream m
  closing := fun m => by
    by_cases hm : m = n
    · exact hm ▸ closing
    · have hc := h.closing m
      rw [o.stream m hm, o.page m hm, o.writing m hm]
      exact { hc with giveBack := fun g => hc.giveBack (o.giving m hm g) }
  request := fun ref m c e => (o.request ref m c e).elim (h.request ref m c) id
  buffers := by
    have others : ((List.finRange 64).erase n).flatMap (fun m => (t.stream m).heldBuffers)
        = ((List.finRange 64).erase n).flatMap (fun m => (s.stream m).heldBuffers) :=
      List.flatMap_congr fun m hm => by rw [o.stream m (ne_of_mem_erase_finRange hm)]
    refine (((flatMap_finRange_perm _ n).append_left _).trans ?_).trans
      (((flatMap_finRange_perm _ n).symm.append_left _).trans h.buffers)
    rw [others, ← List.append_assoc, ← List.append_assoc]
    exact b.buffers.append_right _
  reserved := by
    have others : ((List.finRange 64).erase n).map (fun m => (t.stream m).reservation)
        = ((List.finRange 64).erase n).map (fun m => (s.stream m).reservation) :=
      List.map_congr_left fun m hm => by rw [o.stream m (ne_of_mem_erase_finRange hm)]
    have hs := h.reserved
    have hb := b.reserved
    rw [← List.sum_map_erase _ (List.mem_finRange n)] at hs ⊢
    rw [others]
    omega
  total := b.total h.total

theorem State.Orderly.beside {s t : State} (h : s.Orderly) (b : s.Beside t) : t.Orderly where
  stream := fun n => b.stream n ▸ h.stream n
  closing := fun n => by
    have hg : t.giving n = s.giving n := by
      unfold State.giving
      rw [b.laneOp]
    rw [b.stream, b.page, State.recordInFlight_congr b.laneOp, hg]
    exact h.closing n
  request := fun ref n c e => (b.request ref n c e).elim (h.request ref n c) id
  buffers := by
    simp only [b.stream, b.store]
    exact h.buffers
  reserved := by
    simp only [b.stream, b.store]
    exact h.reserved
  total := b.store ▸ h.total

/-- Two contexts of a stream with the same window, queue, sizes and state. -/
structure Stream.Alike (st st' : Stream) : Prop where
  window : st'.window = st.window
  queue : st'.queue = st.queue
  w : st'.config.w = st.config.w
  q : st'.config.q = st.config.q
  state : st'.state = st.state
  head : st'.head = st.head

theorem Stream.InOrder.alike {st st' : Stream} (h : st.InOrder) (e : st.Alike st') : st'.InOrder where
  slots := by rw [e.window, e.w]; exact h.slots
  sized := by
    unfold StreamConfig.sized
    rw [e.w, e.q, e.state]
    exact h.sized
  placed := by
    unfold Stream.offset
    rw [e.window, e.head]
    exact h.placed
  held := by rw [e.window, e.state]; exact h.held
  queue := by rw [e.queue, e.q]; exact h.queue

/-- With window, queue, sizes, state and Burst Store as they are the account balances. -/
theorem State.Balances.alike {n : StreamId} {s t : State} (e : (s.stream n).Alike (t.stream n))
    (store : t.store = s.store) : State.Balances n s t where
  buffers := by
    unfold Stream.heldBuffers
    rw [e.window, e.queue, store]
  reserved := by
    unfold Stream.reservation
    rw [e.state, e.w, e.q, store]
  total := by rw [store]; exact id

/-- A change of a stream that leaves its window, queue, sizes and state and the Burst Store as they are. -/
theorem State.Orderly.alike {n : StreamId} {s t : State} (h : s.Orderly) (o : State.Only n s t)
    (store : t.store = s.store) (e : (s.stream n).Alike (t.stream n))
    (closing : ClosingOrder (t.stream n) (t.page n) (t.recordInFlight n) (t.giving n)) : t.Orderly :=
  h.only o (.alike e store) ((h.stream n).alike e) closing

/-! ### Streams that are open and not closing -/

/-- The stream is open and not in its closing sequence. -/
def Stream.isOpen (st : Stream) : Prop := st.state ≠ .closed ∧ st.closing = none

theorem ClosingOrder.of_open {st : Stream} {pg : PageState} {w : Bool} {g : Prop} (h : st.isOpen) (hg : ¬ g)
    (onePage : pg.current = none ∨ pg.closingPage = none) : ClosingOrder st pg w g where
  closed := fun e => absurd e h.1
  draining := fun c e => absurd (h.2.symm.trans e) (by simp)
  waitLane := fun c e => absurd (h.2.symm.trans e) (by simp)
  later := fun c e => absurd (h.2.symm.trans e) (by simp)
  returns := fun c e => absurd (h.2.symm.trans e) (by simp)
  giveBack := fun e => absurd e hg
  onePage := onePage

/-- Only a stream in its closing sequence has its supply returned. -/
theorem State.Orderly.not_giving {s : State} (h : s.Orderly) {n : StreamId} (hc : (s.stream n).closing = none) :
    ¬ s.giving n := fun g => by
  obtain ⟨c, e, -⟩ := (h.closing n).giveBack g
  exact absurd (hc.symm.trans e) (by simp)

/-- A stream in a state other than CLOSED and DRAINING is open and not closing. -/
theorem State.Orderly.isOpen {s : State} (h : s.Orderly) {n : StreamId}
    (hs : (s.stream n).state ≠ .closed ∧ (s.stream n).state ≠ .draining) : (s.stream n).isOpen := by
  refine ⟨hs.1, ?_⟩
  cases hc : (s.stream n).closing with
  | none => rfl
  | some c => exact absurd ((h.closing n).draining c hc).1 hs.2

/-- The closing order of a stream that stays open, its pages and the lane's operation as they are. -/
theorem State.Orderly.closing_of_open {s t : State} (h : s.Orderly) {n : StreamId} (hs : (s.stream n).closing = none)
    (ht : (t.stream n).isOpen) (page : t.page n = s.page n) (laneOp : t.lane.op = s.lane.op) :
    ClosingOrder (t.stream n) (t.page n) (t.recordInFlight n) (t.giving n) := by
  refine .of_open ht ?_ (page ▸ (h.closing n).onePage)
  unfold State.giving
  rw [laneOp]
  exact h.not_giving hs

/-- A stream's counters, notes, schedule or options change. -/
theorem State.Orderly.modStream {s : State} (h : s.Orderly) (n : StreamId) (f : Stream → Stream)
    (e : (s.stream n).Alike (f (s.stream n))) (closing : (f (s.stream n)).closing = (s.stream n).closing)
    (run : (s.stream n).earlyRun ≤ 15 → (f (s.stream n)).earlyRun ≤ 15) : (s.modStream n f).Orderly := by
  refine h.alike (s.only_modStream n f (by rw [e.queue, e.q]; exact id) run) rfl (by simpa using e) ?_
  have hc := h.closing n
  simp only [State.stream_modStream_self, State.page_modStream]
  exact {
    closed := by rw [e.state, closing, e.queue]; exact hc.closed
    draining := by rw [e.state, closing, e.window]; exact hc.draining
    waitLane := by rw [closing, e.queue]; exact hc.waitLane
    later := by rw [closing, e.queue]; exact hc.later
    returns := by rw [closing]; exact hc.returns
    giveBack := by rw [closing]; exact hc.giveBack
    onePage := hc.onePage }

end Sys2Proof.Machine
end

section
/-! SUPPORT. The flushes and the closing sequence keep the laws of windows, closing sequences and buffers. -/

namespace Sys2Proof.Machine

open Sys2Proof

/-! ### The closing sequence -/

/-- A stream after the last step of its closing sequence, its reservation given back (R12). -/
def State.closedOut (s : State) (n : StreamId) : State :=
  ({ s with store := { s.store with
      reserved := s.store.reserved - ((s.stream n).config.w + (s.stream n).config.q) } } : State).setStream n
    { s.stream n with
      state := .closed, notes := .clear, closing := none
      changed := (s.stream n).changed || (s.stream n).state != .closed }

/-- Step 4 closes the stream out, makes its record pending if its state changed, and reports (R12). -/
theorem State.closeStep4_eq (s : State) (n : StreamId) (k : Nat) :
    s.closeStep4 n k =
      (if (s.stream n).state = .closed then s.closedOut n else (s.closedOut n).join n.castSucc).setWalker
        (s.walker.closeReported n k) := by
  have same (b : BurstStore) : State.stream { s with store := b } n = s.stream n := rfl
  unfold State.closeStep4 State.modStream
  dsimp only
  rw [State.changeState_setStream]
  simp only [same]
  unfold State.closedOut
  split
  · rename_i h
    simp only [h, bne_self_eq_false, Bool.or_false, State.walker_setStream]
  · rename_i h
    have : ((s.stream n).state != .closed) = true := by simpa using h
    simp only [this, Bool.or_true, State.walker_join, State.walker_setStream]

theorem State.closedOut_beside (s : State) (n : StreamId) (k : Nat) : (s.closedOut n).Beside (s.closeStep4 n k) := by
  rw [State.closeStep4_eq]
  have report (u : State) (e : u.walker = s.walker) : u.Beside (u.setWalker (s.walker.closeReported n k)) :=
    e ▸ u.beside_closeReported n k
  split
  · exact report _ rfl
  · exact (State.beside_join _ _).trans (report _ rfl)

/-- The reservation total holds each stream's reservation. -/
theorem State.Orderly.reservation_le {s : State} (h : s.Orderly) (n : StreamId) :
    (s.stream n).reservation ≤ s.store.reserved := by
  rw [h.reserved, ← List.sum_map_erase _ (List.mem_finRange n)]
  exact Nat.le_add_right _ _

/-- What a stream must have given up before its closing sequence ends (R12). -/
structure State.Emptied (s : State) (n : StreamId) : Prop where
  queue : (s.stream n).queue = []
  current : (s.page n).current = none
  closingPage : (s.page n).closingPage = none
  writing : s.recordInFlight n = false
  giving : ¬ s.giving n

theorem State.Orderly.closeStep4 {s : State} (h : s.Orderly) {n : StreamId} {c : Closing}
    (hc : (s.stream n).closing = some c) (he : s.Emptied n) (hs : (s.page n).supply = []) (k : Nat) :
    (s.closeStep4 n k).Orderly := by
  refine State.Orderly.beside ?_ (s.closedOut_beside n k)
  obtain ⟨hd, hw⟩ := (h.closing n).draining c hc
  have hr : (s.stream n).reservation = (s.stream n).config.w + (s.stream n).config.q := by
    simp [Stream.reservation, hd]
  have hle := h.reservation_le n
  have hst : (s.closedOut n).stream n = { s.stream n with
      state := .closed, notes := .clear, closing := none
      changed := (s.stream n).changed || (s.stream n).state != .closed } := State.stream_setStream_self _ _ _
  refine h.only ((s.only_store n _).trans (State.only_setStream _ n _ (by exact id) (by exact id))) ⟨?_, ?_, ?_⟩ ?_ ?_
  · show (s.store.pool ++ ((s.closedOut n).stream n).heldBuffers).Perm _
    rw [hst]
    exact .refl _
  · show s.store.reserved - ((s.stream n).config.w + (s.stream n).config.q) + _ = _ + ((s.closedOut n).stream n).reservation
    rw [hst, hr]
    rw [hr] at hle
    simp only [Stream.reservation, if_true]
    omega
  · exact (Nat.sub_le _ _).trans
  · show ((s.closedOut n).stream n).InOrder
    rw [hst]
    exact {
      slots := (h.stream n).slots
      sized := fun e => absurd rfl e
      placed := (h.stream n).placed
      held := fun b hb => absurd (hw _ hb) (by simp)
      queue := (h.stream n).queue }
  · show ClosingOrder ((s.closedOut n).stream n) (s.page n) (s.recordInFlight n) (s.giving n)
    rw [hst]
    exact {
      closed := fun _ => ⟨rfl, he.queue, hs, he.current, he.closingPage, he.writing⟩
      draining := fun _ e => nomatch e
      waitLane := fun _ e => nomatch e
      later := fun _ e => nomatch e
      returns := fun _ e => nomatch e
      giveBack := fun g => absurd g he.giving
      onePage := .inl he.current }

theorem State.Orderly.closeStep3 {s : State} (h : s.Orderly) {n : StreamId} {c : Closing}
    (hc : (s.stream n).closing = some c) (he : s.Emptied n) : (s.closeStep3 n).Orderly := by
  unfold State.closeStep3
  split
  · exact h.closeStep4 hc he (List.isEmpty_iff.1 ‹_›) 0
  · obtain ⟨hd, hw⟩ := (h.closing n).draining c hc
    refine h.alike (s.only_modStream_same n _ rfl rfl rfl) rfl ?_ ?_
    · rw [State.stream_modStream_self]
      exact ⟨rfl, rfl, rfl, rfl, rfl, rfl⟩
    · rw [State.stream_modStream_self, State.page_modStream]
      exact {
        closed := fun e => absurd (hd.symm.trans e) (by simp)
        draining := fun _ _ => ⟨hd, hw⟩
        waitLane := fun _ _ _ => .inl he.queue
        later := fun _ _ _ => ⟨he.queue, he.current, he.writing⟩
        returns := fun c' e _ => ⟨he.closingPage, fun e' => by
          rw [hc] at e
          cases e
          cases e'⟩
        giveBack := fun g => absurd g he.giving
        onePage := .inl he.current }

/-- Step 2 begins with an empty queue and a lane that is not on the stream. -/
theorem State.Orderly.closeStep2 {s : State} (h : s.Orderly) {n : StreamId} {c : Closing}
    (hc : (s.stream n).closing = some c) (hq : (s.stream n).queue = []) (hw : s.recordInFlight n = false)
    (hg : ¬ s.giving n) (r : CloseReason) : (s.closeStep2 n r).Orderly := by
  obtain ⟨hd, hn⟩ := (h.closing n).draining c hc
  have waits {st : Stream} {pg : PageState} (state : st.state = .draining) (window : st.window = (s.stream n).window)
      (queue : st.queue = []) (phase : st.closing = some { c with phase := .waitClose })
      (current : pg.current = none) : ClosingOrder st pg (s.recordInFlight n) (s.giving n) := {
    closed := fun e => absurd (state.symm.trans e) (by simp)
    draining := fun _ _ => ⟨state, window ▸ hn⟩
    waitLane := fun _ _ _ => .inl queue
    later := fun _ _ _ => ⟨queue, current, hw⟩
    returns := fun _ e p => by
      rw [phase] at e
      cases e
      rcases p with p | p <;> cases p
    giveBack := fun g => absurd g hg
    onePage := .inl current }
  have o := s.only_closeStep2 n r
  revert o
  unfold State.closeStep2
  dsimp only
  split
  · rename_i p _ hp
    intro o
    refine h.alike o rfl ?_ ?_
    · rw [State.stream_modStream_self]
      exact ⟨rfl, rfl, rfl, rfl, rfl, rfl⟩
    · rw [State.stream_modStream_self, State.page_modStream, State.page_modPage_self]
      refine waits hd rfl hq (congrArg (Option.map (fun c : Closing => { c with phase := .waitClose })) hc) ?_
      exact (h.closing n).onePage.resolve_right (by simp [hp])
  · rename_i p _ hp
    unfold State.beginPageClose
    rw [hp]
    intro o
    refine h.alike o rfl ?_ ?_
    · rw [State.stream_modStream_self]
      exact ⟨rfl, rfl, rfl, rfl, rfl, rfl⟩
    · rw [State.stream_modStream_self, State.page_modStream, State.page_cancel, State.page_modPage_self]
      exact waits hd rfl hq (congrArg (Option.map (fun c : Closing => { c with phase := .waitClose })) hc) rfl
  · rename_i hp hcur
    intro _
    have h' : (s.modStream n (fun st => { st with notes := .clear })).Orderly :=
      h.modStream n _ ⟨rfl, rfl, rfl, rfl, rfl, rfl⟩ rfl id
    refine h'.closeStep3 (c := c) ?_ ⟨?_, hcur, hp, hw, hg⟩
    · rw [State.stream_modStream_self]
      exact hc
    · rw [State.stream_modStream_self]
      exact hq

/-- A lane that is not on the stream neither writes a record of it nor returns its supply. -/
theorem State.quiet_of_not_busy {s : State} {n : StreamId} (h : s.laneBusyWith n = false) :
    s.recordInFlight n = false ∧ ¬ s.giving n := by
  have op (o : LaneOp) (e : s.lane.op = some o) : o.stream ≠ n := by
    simpa [State.laneBusyWith, e] using h
  refine ⟨?_, fun g => op _ g rfl⟩
  rw [Bool.eq_false_iff]
  intro hr
  obtain ⟨t, e⟩ := (s.recordInFlight_iff n).1 hr
  exact op _ e rfl

/-- The closing sequence begins in a DRAINING stream with an empty window and no record queued but the one in flight. -/
theorem State.Orderly.beginClosing {s : State} (h : s.Orderly) {n : StreamId} (hd : (s.stream n).state = .draining)
    (hc : (s.stream n).closing = none) (hw : ∀ x ∈ (s.stream n).window, x = none)
    (hq : (s.stream n).queue = [] ∨ ((s.stream n).queue.length = 1 ∧ s.recordInFlight n = true)) (r : CloseReason) :
    (s.beginClosing n r).Orderly := by
  unfold State.beginClosing
  dsimp only
  have h1 : (s.modStream n (fun st =>
      { st with closing := some { reason := r, phase := .waitLane, returned := 0 } })).Orderly := by
    refine h.alike (s.only_modStream_same n _ rfl rfl rfl) rfl ?_ ?_
    · rw [State.stream_modStream_self]
      exact ⟨rfl, rfl, rfl, rfl, rfl, rfl⟩
    · rw [State.stream_modStream_self, State.page_modStream]
      exact {
        closed := fun e => absurd (hd.symm.trans e) (by simp)
        draining := fun _ _ => ⟨hd, hw⟩
        waitLane := fun _ _ _ => hq
        later := fun _ e p => absurd ((Option.some.inj e) ▸ rfl) p
        returns := fun _ e p => by
          cases e
          rcases p with p | p <;> cases p
        giveBack := fun g => absurd g (h.not_giving hc)
        onePage := (h.closing n).onePage }
  split
  · exact h1
  · rename_i hb
    obtain ⟨h2, h3⟩ := State.quiet_of_not_busy (Bool.eq_false_iff.2 hb)
    refine h1.closeStep2 (c := { reason := r, phase := .waitLane, returned := 0 }) ?_ ?_ h2 h3 r
    · rw [State.stream_modStream_self]
    · rw [State.stream_modStream_self]
      exact hq.resolve_right (fun e => by
        have : s.recordInFlight n = false := h2
        simp [this] at e)

theorem windowEmpty_iff (w : List (Option Burst)) : windowEmpty w = true ↔ ∀ x ∈ w, x = none := by
  simp [windowEmpty]

theorem State.Orderly.testDrained {s : State} (h : s.Orderly) (n : StreamId) : (s.testDrained n).Orderly := by
  unfold State.testDrained
  dsimp only
  split
  · rename_i hc
    obtain ⟨hd, hn, hw, hq, -⟩ := hc
    exact h.beginClosing hd hn ((windowEmpty_iff _).1 hw) (.inl hq) _
  · exact h

theorem State.Orderly.laneDone {s : State} (h : s.Orderly) {n : StreamId} (hw : s.recordInFlight n = false)
    (hg : ¬ s.giving n) : (s.laneDone n).Orderly := by
  unfold State.laneDone
  split
  · rename_i c hc
    split
    · rename_i hp
      refine h.closeStep2 hc ?_ hw hg _
      exact ((h.closing n).waitLane c hc hp).resolve_right (by simp [hw])
    all_goals exact h
  · exact h

/-! ### Flushes -/

theorem heldBursts_map_none (w : List (Option Burst)) : (w.map (fun _ => (none : Option Burst))).filterMap id = [] :=
  filterMap_eq_nil_of_empty (by simp)

/-- The two lists hold each buffer equally often: the form in which every account is settled. -/
theorem perm_of_count {α : Type} [DecidableEq α] {a b : List α} (h : ∀ x, a.count x = b.count x) : a.Perm b :=
  List.perm_iff_count.2 h

/-- A window flush of an open stream keeps the laws: its buffers go back to the pool (R8). -/
theorem State.Orderly.flushWindow {s : State} (h : s.Orderly) {n : StreamId} (ho : (s.stream n).isOpen) :
    (s.flushWindow n).Orderly := by
  have o := s.only_flushWindow n
  rw [State.flushWindow_eq] at o ⊢
  refine h.only o ⟨?_, ?_, id⟩ ?_ ?_
  · rw [State.stream_setStream_self]
    simp only [Stream.heldBuffers, heldBursts_map_none, State.store_setStream]
    exact perm_of_count fun x => by
      simp only [List.count_append, List.map_nil, List.count_nil]
      omega
  · rw [State.stream_setStream_self]
    rfl
  · rw [State.stream_setStream_self]
    have hs := h.stream n
    exact {
      slots := by simpa using hs.slots
      sized := hs.sized
      placed := fun i b e => absurd (List.mem_of_getElem? e) (by simp)
      held := fun b e => by simp at e
      queue := hs.queue }
  · refine h.closing_of_open ho.2 ?_ rfl rfl
    rw [State.stream_setStream_self]
    exact ho

/-- What a queue flush takes and what it leaves are together what the queue held. -/
theorem count_recordBuffers_take_drop (x : BufferId) (k : Nat) (q : List QueueRecord) :
    ((q.take k).flatMap (fun r => r.content.buffers)).count x + ((q.drop k).flatMap (fun r => r.content.buffers)).count x
      = (q.flatMap (fun r => r.content.buffers)).count x := by
  rw [← List.count_append, ← List.flatMap_append, List.take_append_drop]

theorem State.stream_flushedOut (s : State) (n : StreamId) :
    ((s.flushedOut n).stream n).state = .draining ∧ ((s.flushedOut n).stream n).closing = (s.stream n).closing
      ∧ ((s.flushedOut n).stream n).window = (s.stream n).window.map (fun _ => none)
      ∧ ((s.flushedOut n).stream n).queue = (s.stream n).queue.take (if s.recordInFlight n then 1 else 0) := by
  unfold State.flushedOut State.stateChanged
  dsimp only
  split <;> simp only [State.stream_join, State.stream_setStream_self, and_self]

theorem State.only_flushedOut (s : State) (n : StreamId) : State.Only n s (s.flushedOut n) := by
  have flushed (pool : List BufferId) (st : Stream) (queue : st.queue.length ≤ (s.stream n).queue.length)
      (config : st.config = (s.stream n).config) (run : st.earlyRun = (s.stream n).earlyRun) :
      State.Only n s (((({ s with store := { s.store with pool := pool } } : State).cancel n .head).cancel n
        .silence).setStream n st) :=
    (((s.only_store n _).beside (State.beside_cancel _ n _)).beside (State.beside_cancel _ n _)).trans
      (State.only_setStream _ n st (fun h => config ▸ queue.trans h) (fun h => run ▸ h))
  unfold State.flushedOut State.stateChanged
  dsimp only
  split
  · exact flushed _ _ (List.length_take_le' _ _) rfl rfl
  · refine State.Only.beside ?_ (State.beside_join _ _)
    exact flushed _ _ (List.length_take_le' _ _) rfl rfl

theorem State.flushedOut_frame (s : State) (n : StreamId) :
    (s.flushedOut n).pages = s.pages ∧ (s.flushedOut n).lane = s.lane
      ∧ (s.flushedOut n).store = { s.store with
          pool := ((s.stream n).queue.drop (if s.recordInFlight n then 1 else 0)).flatMap (fun r => r.content.buffers)
            ++ ((s.stream n).window.filterMap id).map (fun b => b.buffer) ++ s.store.pool }
      ∧ ((s.flushedOut n).stream n).config = (s.stream n).config := by
  unfold State.flushedOut State.stateChanged
  dsimp only
  split <;> simp only [State.stream_join, State.stream_setStream_self] <;> exact ⟨rfl, rfl, rfl, trivial⟩

/-- Both flushes of an immediate close keep the laws (R8, R11). -/
theorem State.Orderly.flushedOut {s : State} (h : s.Orderly) {n : StreamId} (ho : (s.stream n).isOpen) :
    (s.flushedOut n).Orderly := by
  obtain ⟨hstate, hclosing, hwindow, hqueue⟩ := s.stream_flushedOut n
  obtain ⟨hpages, hlane, hstore, hconfig⟩ := s.flushedOut_frame n
  have hs := h.stream n
  refine h.only (s.only_flushedOut n) ⟨?_, ?_, ?_⟩ ?_ ?_
  · simp only [Stream.heldBuffers, hwindow, hqueue, hstore, heldBursts_map_none]
    refine perm_of_count fun x => ?_
    have := count_recordBuffers_take_drop x (if s.recordInFlight n then 1 else 0) (s.stream n).queue
    simp only [List.count_append, List.map_nil, List.count_nil]
    omega
  · simp [Stream.reservation, hstate, hconfig, hstore, ho.1]
  · rw [hstore]
    exact id
  · exact {
      slots := by rw [hwindow, hconfig, List.length_map]; exact hs.slots
      sized := fun _ => hconfig ▸ hs.sized ho.1
      placed := fun i b e => absurd (List.mem_of_getElem? e) (by simp [hwindow])
      held := fun b e => by simp [hwindow] at e
      queue := by
        rw [hqueue, hconfig]
        exact (List.length_take_le' _ _).trans hs.queue }
  · refine h.closing_of_open ho.2 ⟨by simp [hstate], hclosing.trans ho.2⟩ ?_ (congrArg Lane.op hlane)
    unfold State.page
    rw [hpages]

/-- An immediate close keeps the laws; a record in flight stays in the queue (R8, R11). -/
theorem State.Orderly.closeNow {s : State} (h : s.Orderly) {n : StreamId} (ho : (s.stream n).isOpen) (r : CloseReason) :
    (s.closeNow n r).Orderly := by
  obtain ⟨hstate, hclosing, hwindow, hqueue⟩ := s.stream_flushedOut n
  have hwriting : (s.flushedOut n).recordInFlight n = s.recordInFlight n :=
    State.recordInFlight_congr (congrArg Lane.op (s.flushedOut_frame n).2.1) n
  rw [State.closeNow_eq]
  refine (h.flushedOut ho).beginClosing hstate (hclosing.trans ho.2) (by simp [hwindow]) ?_ r
  rw [hqueue, hwriting]
  cases s.recordInFlight n with
  | false => exact .inl rfl
  | true =>
    cases (s.stream n).queue with
    | nil => exact .inl rfl
    | cons r q => exact .inr ⟨rfl, rfl⟩

end Sys2Proof.Machine
end

section
/-! SUPPORT. The Stream Engine keeps the laws of windows, closing sequences and buffers: releases, skips, stalls, cuts and
offers; and what a burst placed in a window and an anchoring make of a stream. -/

namespace Sys2Proof.Machine

open Sys2Proof

/-! ### The advance of the head -/

/-- The window of a stream whose head advances by k: the held bursts keep their sequences (R24, R61). -/
theorem Stream.InOrder.advance {st : Stream} (h : st.InOrder) (hs : st.state ≠ .closed) (due : Word) {k : Nat}
    (hk : k ≤ st.config.w) : (st.advance due k).InOrder where
  slots := by
    have := h.slots
    simp only [Stream.advance, List.length_append, List.length_drop, List.length_replicate]
    omega
  sized := h.sized
  placed := fun o b e => by
    have hw := (h.sized hs).2.1
    simp only [Stream.advance, List.getElem?_append, List.getElem?_replicate] at e
    split at e
    · rw [List.getElem?_drop] at e
      have hp := h.placed _ b e
      simp only [Stream.offset, Stream.advance] at hp ⊢
      have := (b.sequence - st.head).isLt
      have shift : b.sequence - (st.head + BitVec.ofNat 16 k) = b.sequence - st.head - BitVec.ofNat 16 k :=
        sub_add_eq_sub_sub _ _ _
      have hk16 : (BitVec.ofNat 16 k).toNat = k := by
        rw [BitVec.toNat_ofNat]
        omega
      rw [shift, BitVec.toNat_sub_of_le (by rw [BitVec.le_def]; omega)]
      omega
    · split at e <;> cases e
  held := fun b e => by
    refine h.held b ?_
    simp only [Stream.advance, List.mem_append, List.mem_replicate, reduceCtorEq, and_false, or_false] at e
    exact List.mem_of_mem_drop e
  queue := h.queue

/-- The bursts in the k slots that leave the window are all that an advance takes from a stream. -/
theorem Stream.count_heldBuffers_advance (st : Stream) (due : Word) (k : Nat) (x : BufferId) :
    (st.advance due k).heldBuffers.count x + (((st.window.take k).filterMap id).map (fun b => b.buffer)).count x
      = st.heldBuffers.count x := by
  have hr : (List.replicate k (none : Option Burst)).filterMap id = [] :=
    filterMap_eq_nil_of_empty (by simp [List.mem_replicate])
  have hw : st.heldBuffers.count x = (((st.window.take k).filterMap id).map (fun b => b.buffer)).count x
      + ((((st.window.drop k).filterMap id).map (fun b => b.buffer)).count x
        + (st.queue.flatMap (fun r => r.content.buffers)).count x) := by
    have parts : st.window.filterMap id = (st.window.take k).filterMap id ++ (st.window.drop k).filterMap id := by
      rw [← List.filterMap_append, List.take_append_drop]
    rw [Stream.heldBuffers, List.count_append, parts, List.map_append, List.count_append, Nat.add_assoc]
  rw [hw]
  simp only [Stream.advance, Stream.heldBuffers, List.filterMap_append, hr, List.append_nil, List.count_append]
  omega

/-! ### Releases -/

/-- A record that meets room in the queue enters it with the pending notes (R64, R68). -/
theorem State.offerRecord_of_room (s : State) (n : StreamId) (r : QueueRecord)
    (h : (s.stream n).queue.length < (s.stream n).config.q) :
    s.offerRecord n r = s.setStream n { s.stream n with
      queue := (s.stream n).queue ++ [{ r with notes := (s.stream n).notes }], notes := .clear } := by
  unfold State.offerRecord
  rw [if_pos h]
  rfl

/-- A stream that drops a record as starved (R64). -/
def Stream.starve (st : Stream) : Stream :=
  { st with
    notes := { st.notes with starved := satAdd st.notes.starved 1 }
    counters := { st.counters with starved := st.counters.starved + 1 }
    changed := true }

/-- A record that meets a full queue is dropped, and its buffer goes back to the pool (R64). -/
theorem State.offerRecord_of_full (s : State) (n : StreamId) (r : QueueRecord)
    (h : (s.stream n).config.q ≤ (s.stream n).queue.length) :
    s.offerRecord n r = (s.setStream n (s.stream n).starve).freeBuffers r.content.buffers := by
  unfold State.offerRecord
  rw [if_neg (Nat.not_lt.2 h)]
  rfl

/-- What a record offered to a queue leaves as it is, and the account of its buffers. -/
structure State.RecordOffered (n : StreamId) (r : QueueRecord) (s t : State) : Prop where
  window : (t.stream n).window = (s.stream n).window
  config : (t.stream n).config = (s.stream n).config
  state : (t.stream n).state = (s.stream n).state
  head : (t.stream n).head = (s.stream n).head
  closing : (t.stream n).closing = (s.stream n).closing
  queue : (s.stream n).queue.length ≤ (s.stream n).config.q → (t.stream n).queue.length ≤ (s.stream n).config.q
  page : t.page n = s.page n
  lane : t.lane = s.lane
  reserved : t.store.reserved = s.store.reserved
  buffers : ∀ x, t.store.pool.count x + (t.stream n).heldBuffers.count x
    = r.content.buffers.count x + s.store.pool.count x + (s.stream n).heldBuffers.count x

/-- A record offered to a queue enters it or gives its buffer back (R64). -/
theorem State.recordOffered (s : State) (n : StreamId) (r : QueueRecord) :
    State.RecordOffered n r s (s.offerRecord n r) := by
  by_cases hq : (s.stream n).queue.length < (s.stream n).config.q
  · have hu := s.offerRecord_of_room n r hq
    have hst := congrArg (fun t => State.stream t n) hu
    simp only [State.stream_setStream_self] at hst
    exact {
      window := by rw [hst]
      config := by rw [hst]
      state := by rw [hst]
      head := by rw [hst]
      closing := by rw [hst]
      queue := fun _ => by
        rw [hst]
        simpa using hq
      page := by rw [hu]; rfl
      lane := by rw [hu]; rfl
      reserved := by rw [hu]; rfl
      buffers := fun x => by
        rw [hst, hu, State.store_setStream]
        simp only [Stream.heldBuffers, List.flatMap_append, List.flatMap_singleton, List.count_append]
        omega }
  · have hu := s.offerRecord_of_full n r (Nat.not_lt.1 hq)
    have hst := congrArg (fun t => State.stream t n) hu
    simp only [State.stream_freeBuffers, State.stream_setStream_self] at hst
    exact {
      window := by rw [hst]; rfl
      config := by rw [hst]; rfl
      state := by rw [hst]; rfl
      head := by rw [hst]; rfl
      closing := by rw [hst]; rfl
      queue := fun h => by
        rw [hst]
        exact h
      page := by rw [hu]; rfl
      lane := by rw [hu]; rfl
      reserved := by rw [hu]; rfl
      buffers := fun x => by
        rw [hst, hu]
        show (r.content.buffers ++ s.store.pool).count x + (s.stream n).heldBuffers.count x = _
        rw [List.count_append] }

/-- A record that leaves slot 0 of an open stream, or is made for it, enters the queue or is dropped, and the head advances:
the laws are kept when the record's buffer is the one the stream gave up (R57 to R61, R64). -/
theorem State.Orderly.release {s u : State} {n : StreamId} (h : s.Orderly) (o : State.Only n s u)
    (alike : (s.stream n).Alike (u.stream n)) (closing : (u.stream n).closing = none) (hc : (s.stream n).closing = none)
    (hs : (s.stream n).state ≠ .closed) (page : u.page n = s.page n) (laneOp : u.lane.op = s.lane.op)
    (reserved : u.store.reserved = s.store.reserved) (r : QueueRecord) (due : Word)
    (account : (r.content.buffers ++ u.store.pool).Perm
      ((((s.stream n).window.take 1).filterMap id).map (fun b => b.buffer) ++ s.store.pool)) :
    ((u.offerRecord n r).modStream n (Stream.advance due 1)).Orderly := by
  have offered := u.recordOffered n r
  have order := (h.stream n).alike alike
  have open' : ((u.offerRecord n r).stream n).state ≠ .closed := by
    rw [offered.state, alike.state]
    exact hs
  have order' : ((u.offerRecord n r).stream n).InOrder := {
    slots := by rw [offered.window, offered.config]; exact order.slots
    sized := by rw [offered.state, offered.config]; exact order.sized
    placed := by
      unfold Stream.offset
      rw [offered.window, offered.head]
      exact order.placed
    held := by rw [offered.window, offered.state]; exact order.held
    queue := by rw [offered.config]; exact offered.queue order.queue }
  refine h.only (o.trans ((u.only_offerRecord n r).trans (State.only_advance _ n due 1)))
    ⟨perm_of_count fun x => ?_, ?_, ?_⟩ ?_ (h.closing_of_open hc ?_ ?_ ?_)
  · have given := List.perm_iff_count.1 account x
    have taken := offered.buffers x
    have left := Stream.count_heldBuffers_advance ((u.offerRecord n r).stream n) due 1 x
    have held : (u.stream n).heldBuffers = (s.stream n).heldBuffers := by
      unfold Stream.heldBuffers
      rw [alike.window, alike.queue]
    rw [offered.window, alike.window] at left
    rw [held] at taken
    rw [State.stream_modStream_self, State.store_modStream, List.count_append, List.count_append]
    simp only [List.count_append] at given
    omega
  · rw [State.stream_modStream_self, State.store_modStream, offered.reserved, reserved]
    simp only [Stream.reservation, Stream.advance, offered.state, offered.config, alike.state, alike.w, alike.q]
  · rw [State.store_modStream, offered.reserved, reserved]
    exact id
  · rw [State.stream_modStream_self]
    exact order'.advance open' due ((Nat.le_succ 1).trans (order'.sized open').1)
  · rw [State.stream_modStream_self]
    exact ⟨open', offered.closing.trans closing⟩
  · rw [State.page_modStream, offered.page, page]
  · rw [State.lane_modStream, offered.lane, laneOp]

theorem State.Orderly.rearmHead {s : State} (h : s.Orderly) (n : StreamId) : (s.rearmHead n).Orderly := by
  unfold State.rearmHead
  split
  · exact h.testDrained n
  · exact h.beside (s.beside_arm n _ _)

theorem slot0_eq_some {w : List (Option Burst)} {b : Burst} (h : slot0 w = some b) : ∃ rest, w = some b :: rest := by
  unfold slot0 at h
  split at h
  · cases h
    exact ⟨_, rfl⟩
  · cases h
  · cases h

/-- An open stream with no burst in slot 0 has an empty slot there. -/
theorem Stream.InOrder.slot0_none {st : Stream} (h : st.InOrder) (hs : st.state ≠ .closed)
    (e : slot0 st.window = none) : ∃ rest, st.window = none :: rest := by
  have hl := h.slots
  have hw := (h.sized hs).1
  unfold slot0 at e
  split at e
  · cases e
  · exact ⟨_, ‹_›⟩
  · rename_i hn
    rw [hn] at hl
    simp only [List.length_nil] at hl
    omega

theorem State.Orderly.releaseData {s : State} (h : s.Orderly) {n : StreamId} (ho : (s.stream n).isOpen) {b : Burst}
    (hb : slot0 (s.stream n).window = some b) (due : Word) : (s.releaseData n due b).Orderly := by
  obtain ⟨rest, hw⟩ := slot0_eq_some hb
  refine (h.release (s.only_modStream_same n _ rfl rfl rfl) ?_ ?_ ho.2 ho.1 rfl rfl rfl _ due ?_).rearmHead n
  · rw [State.stream_modStream_self]
    exact ⟨rfl, rfl, rfl, rfl, rfl, rfl⟩
  · rw [State.stream_modStream_self]
    exact ho.2
  · rw [hw]
    exact .refl _

/-- A FILL release of an open stream with an empty slot 0 keeps the laws; it always finds the buffer it claims
(R18, R59, R60). -/
theorem State.Orderly.releaseFill {s : State} (h : s.Orderly) {n : StreamId} (ho : (s.stream n).isOpen)
    (hb : slot0 (s.stream n).window = none) (due : Word) : ∃ t, s.releaseFill n due = some t ∧ t.Orderly := by
  obtain ⟨rest, hw⟩ := (h.stream n).slot0_none ho.1 hb
  have released (u : State) (r : QueueRecord) (hm : s.makeFill n due = some (r, u)) (hu : u.streams = s.streams)
      (hp : u.pages = s.pages) (hl : u.lane = s.lane) (hr : u.store.reserved = s.store.reserved)
      (account : (r.content.buffers ++ u.store.pool).Perm s.store.pool) :
      ∃ t, s.releaseFill n due = some t ∧ t.Orderly := by
    have hst : u.stream n = s.stream n := by
      unfold State.stream
      rw [hu]
    have hpg : u.page n = s.page n := by
      unfold State.page
      rw [hp]
    unfold State.releaseFill
    rw [hm]
    refine ⟨_, rfl, (h.release ((State.only_makeFill hm).trans (State.only_modStream_same _ n _ rfl rfl rfl)) ?_ ?_ ho.2
      ho.1 hpg (by rw [State.lane_modStream, hl]) hr r due ?_).rearmHead n⟩
    · rw [State.stream_modStream_self, hst]
      exact ⟨rfl, rfl, rfl, rfl, rfl, rfl⟩
    · rw [State.stream_modStream_self, hst]
      exact ho.2
    · rw [hw]
      exact account
  have plain (r : QueueRecord) (hm : s.makeFill n due = some (r, s)) (hc : r.content.buffers = []) :
      ∃ t, s.releaseFill n due = some t ∧ t.Orderly :=
    released s r hm rfl rfl rfl rfl (by rw [hc]; exact .refl _)
  cases hf : (s.stream n).config.fillPolicy with
  | constant => exact plain _ (by simp only [State.makeFill, hf]; rfl) rfl
  | markOnly => exact plain _ (by simp only [State.makeFill, hf]; rfl) rfl
  | repeatStore =>
    by_cases he : (s.stream n).repeatStore.isEmpty = true
    · exact plain _ (by simp only [State.makeFill, hf, if_pos he]; rfl) rfl
    · have hlt : (s.stream n).heldBuffers.length < (s.stream n).reservation := by
        unfold Stream.reservation
        rw [if_neg ho.1]
        exact (h.stream n).bounded_of_empty_slot (by simp [hw])
      obtain ⟨b, pool, hp⟩ := h.pool_cons hlt
      refine released (s.filled b pool (s.stream n).repeatStore) _
        (by simp only [State.makeFill, hf, if_neg he, State.claim_eq, hp]; rfl) rfl rfl rfl rfl ?_
      rw [hp]
      exact .refl _

/-- A skip moves the head over empty slots (R62). -/
theorem State.Orderly.skipAhead {s : State} (h : s.Orderly) {n : StreamId} (ho : (s.stream n).isOpen) {k : Nat}
    (hk : lowestOccupied (s.stream n).window = some k) (due : Word) : (s.skipAhead n due k).Orderly := by
  obtain ⟨hlt, -, hempty⟩ := List.findIdx?_eq_some_iff_getElem.1 hk
  have hnone : ((s.stream n).window.take k).filterMap id = [] := filterMap_eq_nil_of_empty fun b hb => by
    obtain ⟨i, hi, e⟩ := List.mem_iff_getElem.1 hb
    rw [List.getElem_take] at e
    have := hempty i (by simp at hi; omega)
    simp [e] at this
  refine State.Orderly.beside ?_ (State.beside_arm _ n _ _)
  refine h.only (s.only_modStream_same n _ rfl rfl rfl) ⟨perm_of_count fun x => ?_, ?_, id⟩ ?_
    (h.closing_of_open ho.2 ?_ rfl rfl)
  · have := Stream.count_heldBuffers_advance (s.stream n) due k x
    rw [hnone, List.map_nil, List.count_nil] at this
    rw [State.stream_modStream_self, State.store_modStream, List.count_append, List.count_append, ← this]
    rfl
  · rw [State.stream_modStream_self]
    rfl
  · rw [State.stream_modStream_self]
    refine Stream.InOrder.advance ?_ ?_ due (Nat.le_of_lt ((h.stream n).slots ▸ hlt))
    · exact (h.stream n).alike ⟨rfl, rfl, rfl, rfl, rfl, rfl⟩
    · exact ho.1
  · rw [State.stream_modStream_self]
    exact ho

/-! ### Changes of state -/

/-- An open stream goes to another open state; its window is empty, or it goes to RUNNING or DRAINING (R5). -/
theorem State.Orderly.changeState {s : State} (h : s.Orderly) {n : StreamId} (ho : (s.stream n).isOpen)
    {target : StreamState} (ht : target ≠ .closed)
    (hw : (∀ x ∈ (s.stream n).window, x = none) ∨ target = .running ∨ target = .draining) :
    (s.changeState n target).Orderly := by
  unfold State.changeState
  split
  · exact h
  · refine State.Orderly.beside ?_ (State.beside_join _ _)
    have hs := h.stream n
    refine h.only (s.only_modStream_same n _ rfl rfl rfl) ⟨?_, ?_, id⟩ ?_ (h.closing_of_open ho.2 ?_ rfl rfl)
    · rw [State.stream_modStream_self]
      exact .refl _
    · rw [State.stream_modStream_self]
      simp [Stream.reservation, ht, ho.1]
    · rw [State.stream_modStream_self]
      exact {
        slots := hs.slots
        sized := fun _ => hs.sized ho.1
        placed := hs.placed
        held := fun b hb => hw.elim (fun e => absurd (e _ hb) (by simp)) id
        queue := hs.queue }
    · rw [State.stream_modStream_self]
      exact ⟨ht, ho.2⟩

theorem State.Orderly.stall {s : State} (h : s.Orderly) {n : StreamId} (ho : (s.stream n).isOpen)
    (hw : ∀ x ∈ (s.stream n).window, x = none) : (s.stall n).Orderly :=
  ((h.changeState ho (by simp) (.inl hw)).modStream n _ ⟨rfl, rfl, rfl, rfl, rfl, rfl⟩ rfl id).beside
    (State.beside_alarm _ n)

theorem lowestOccupied_eq_none {w : List (Option Burst)} (h : lowestOccupied w = none) : ∀ x ∈ w, x = none := by
  simpa [lowestOccupied] using h

/-- A HEAD expiry keeps the laws, and finds the buffer it claims (R18, R55, R66). -/
theorem State.Orderly.headExpiry {s : State} (h : s.Orderly) (n : StreamId) (due : Word) :
    ∃ t, s.headExpiry n due = some t ∧ t.Orderly := by
  unfold State.headExpiry
  dsimp only
  split
  · rename_i hs
    have ho : (s.stream n).isOpen := h.isOpen (by simp [hs])
    split
    · rename_i hb
      exact ⟨_, rfl, h.releaseData ho hb due⟩
    · rename_i hb
      split
      · exact h.releaseFill ho hb due
      · split
        · rename_i hk
          exact ⟨_, rfl, h.skipAhead ho hk due⟩
        · rename_i hk
          exact ⟨_, rfl, h.stall ho (lowestOccupied_eq_none hk)⟩
  · rename_i hs
    have ho (hh : ∃ b, some b ∈ (s.stream n).window) : (s.stream n).isOpen := by
      refine ⟨by simp [hs], ?_⟩
      cases hc : (s.stream n).closing with
      | none => rfl
      | some c =>
        obtain ⟨b, hb⟩ := hh
        exact absurd (((h.closing n).draining c hc).2 _ hb) (by simp)
    split
    · rename_i b hb
      obtain ⟨rest, hw⟩ := slot0_eq_some hb
      exact ⟨_, rfl, h.releaseData (ho ⟨b, by simp [hw]⟩) hb due⟩
    · split
      · rename_i k hk
        obtain ⟨hlt, hp, -⟩ := List.findIdx?_eq_some_iff_getElem.1 hk
        obtain ⟨b, hb⟩ := Option.isSome_iff_exists.1 hp
        exact ⟨_, rfl, h.skipAhead (ho ⟨b, hb ▸ List.getElem_mem hlt⟩) hk due⟩
      · exact ⟨_, rfl, h⟩
  all_goals exact ⟨_, rfl, h⟩

theorem State.stream_flushWindow (s : State) (n : StreamId) :
    ((s.flushWindow n).stream n).state = (s.stream n).state
      ∧ ((s.flushWindow n).stream n).closing = (s.stream n).closing
      ∧ ((s.flushWindow n).stream n).config = (s.stream n).config
      ∧ ((s.flushWindow n).stream n).window = (s.stream n).window.map (fun _ => none) := by
  rw [State.flushWindow_eq]
  simp only [State.stream_setStream_self, and_self]

theorem State.Orderly.cutStream {s : State} (h : s.Orderly) {n : StreamId} (ho : (s.stream n).isOpen) :
    (s.cutStream n).Orderly := by
  obtain ⟨hstate, hclosing, -, hwindow⟩ := s.stream_flushWindow n
  have h1 := (h.flushWindow ho).beside (State.beside_cancel _ n .head)
  refine (State.Orderly.modStream (h1.changeState ?_ (by simp) (.inl ?_)) n _ ⟨rfl, rfl, rfl, rfl, rfl, rfl⟩ rfl
    id).beside (State.beside_alarm _ n)
  · rw [State.stream_cancel]
    exact ⟨hstate ▸ ho.1, hclosing.trans ho.2⟩
  · rw [State.stream_cancel, hwindow]
    simp

theorem State.Orderly.silenceExpiry {s : State} (h : s.Orderly) (n : StreamId) : (s.silenceExpiry n).Orderly := by
  unfold State.silenceExpiry
  split
  · exact h.cutStream (h.isOpen (by simp_all))
  · exact h.cutStream (h.isOpen (by simp_all))
  · exact h.cutStream (h.isOpen (by simp_all))
  all_goals exact h

/-! ### Bursts stored -/

/-- The minimum margin after a burst was stored (R34). -/
theorem Stream.noteMargin_eq (m : Word) (st : Stream) :
    st.noteMargin m = { st with
      minMargin := if m.slt st.minMargin then m else st.minMargin, changed := st.changed || m.slt st.minMargin } := by
  unfold Stream.noteMargin
  cases hm : m.slt st.minMargin with
  | true => simp
  | false => simp

/-- A burst placed in an empty slot is all that the window gains. -/
theorem heldBursts_set {w : List (Option Burst)} {o : Nat} (h : w[o]? = some none) (b : Burst) :
    ((w.set o (some b)).filterMap id).Perm (b :: w.filterMap id) := by
  induction w generalizing o with
  | nil => simp at h
  | cons x w ih =>
    cases o with
    | zero =>
      simp only [List.getElem?_cons_zero, Option.some.injEq] at h
      subst h
      exact .refl _
    | succ o =>
      have := ih (by simpa using h)
      cases x with
      | none => exact this
      | some c => exact (this.cons c).trans (.swap b c _)

/-- A stream with a burst more in slot o: the burst's sequence is at that offset from the head (R24, R31). -/
theorem Stream.InOrder.place {st st' : Stream} (h : st.InOrder) {o : Nat} {b : Burst}
    (window : st'.window = st.window.set o (some b)) (queue : st'.queue = st.queue) (config : st'.config = st.config)
    (sized : st.config.sized) (state : st'.state = .running) (offset : st'.offset b.sequence = o)
    (head : st'.head = st.head ∨ ∀ x ∈ st.window, x = none) : st'.InOrder where
  slots := by rw [window, List.length_set, config]; exact h.slots
  sized := fun _ => config ▸ sized
  placed := fun i c e => by
    rw [window, List.getElem?_set] at e
    split at e
    · split at e
      · cases e
        rename_i hi _
        exact offset.trans hi
      · cases e
    · rcases head with hd | hn
      · unfold Stream.offset
        rw [hd]
        exact h.placed i c e
      · exact absurd (hn _ (List.mem_of_getElem? e)) (by simp)
  held := fun _ _ => .inl state
  queue := by rw [queue, config]; exact h.queue

/-- A claimed buffer filled with an offered burst and placed in an empty slot of an open stream, which then runs. -/
theorem State.Orderly.place {s : State} (h : s.Orderly) {n : StreamId} (ho : (s.stream n).isOpen) {b : BufferId}
    {pool : List BufferId} (hp : s.store.pool = b :: pool) {o : Nat} (hslot : (s.stream n).window[o]? = some none)
    {st : Stream} {c : Burst} (buffer : c.buffer = b) (window : st.window = (s.stream n).window.set o (some c))
    (queue : st.queue = (s.stream n).queue) (config : st.config = (s.stream n).config) (state : st.state = .running)
    (offset : st.offset c.sequence = o) (head : st.head = (s.stream n).head ∨ ∀ x ∈ (s.stream n).window, x = none)
    (closing : st.closing = (s.stream n).closing) (run : st.earlyRun = 0) (samples : List Half) :
    ((s.filled b pool samples).setStream n st).Orderly := by
  refine h.only ((s.only_filled n b pool samples).trans
    (State.only_setStream _ n st (fun e => by rw [queue, config]; exact e) (fun _ => by rw [run]; exact Nat.zero_le 15)))
    ⟨perm_of_count fun x => ?_, ?_, id⟩ ?_ (h.closing_of_open ho.2 ?_ rfl rfl)
  · have := ((heldBursts_set hslot c).map (fun b => b.buffer)).count_eq x
    rw [List.map_cons, buffer, ← window] at this
    rw [State.stream_setStream_self, State.store_setStream, hp]
    simp only [State.filled, Stream.heldBuffers, queue, List.count_append, this, List.count_cons]
    omega
  · rw [State.stream_setStream_self]
    simp [Stream.reservation, state, config, ho.1, State.filled]
  · rw [State.stream_setStream_self]
    exact (h.stream n).place window queue config ((h.stream n).sized ho.1) state offset head
  · rw [State.stream_setStream_self]
    exact ⟨by simp [state], closing.trans ho.2⟩

/-- An open stream with an empty slot claims a buffer from a pool that holds one (R18, R19). -/
theorem State.Orderly.claims {s : State} (h : s.Orderly) {n : StreamId} (ho : (s.stream n).isOpen) {o : Nat}
    (hslot : (s.stream n).window[o]? = some none) : ∃ b pool, s.store.pool = b :: pool := by
  refine h.pool_cons (n := n) ?_
  unfold Stream.reservation
  rw [if_neg ho.1]
  exact (h.stream n).bounded_of_empty_slot (List.mem_of_getElem? hslot)

/-- A burst in the window whose slot is empty is stored (R31). -/
theorem State.storeBurst_eq (s : State) (n : StreamId) (o : Nat) (f : Frame) (l : LinkId) {b : BufferId}
    {pool : List BufferId} (hp : s.store.pool = b :: pool) :
    s.storeBurst n o f l = some (((s.filled b pool f.samples).setStream n
      (Stream.noteMargin ((s.stream n).margin o s.time.tick) { s.stream n with
        window := (s.stream n).window.set o (some (slotBurst b f l s.time.tick)), earlyRun := 0 })).silenceAfter n
          (s.stream n).config.silence s.time.tick) := by
  unfold State.storeBurst
  rw [State.placeBurst_eq s n f l b pool hp o, Option.map_some, State.armSilence_eq, State.stream_setStream_self,
    (Stream.noteMargin_frame _ _).2.1]

/-- A stream after it anchored on a burst (R27 to R29). -/
def Stream.anchored (st : Stream) (b : Burst) : Stream :=
  { st with
    state := .running
    head := b.sequence
    headDeadline := b.arrival + st.config.d
    anchoredOnce := true
    fillsInRow := 0
    earlyRun := 0
    window := st.window.set 0 (some b)
    notes := { st.notes with resync := st.notes.resync || st.anchoredOnce }
    counters := { st.counters with resyncs := st.counters.resyncs + (if st.anchoredOnce then 1 else 0) }
    minMargin := if st.config.d.slt st.minMargin then st.config.d else st.minMargin
    changed := true }

theorem State.arm_setStream (s : State) (n m : StreamId) (st : Stream) (k : DeadlineKind) (d : Word) :
    (s.setStream n st).arm m k d = (s.arm m k d).setStream n st := rfl

theorem State.join_arm (s : State) (i : Fin 65) (m : StreamId) (k : DeadlineKind) (d : Word) :
    (s.join i).arm m k d = (s.arm m k d).join i := rfl

theorem State.silenceAfter_setStream (s : State) (n m : StreamId) (st : Stream) (p : Half) (t : Word) :
    (s.setStream n st).silenceAfter m p t = (s.silenceAfter m p t).setStream n st := by
  unfold State.silenceAfter
  split <;> rfl

theorem State.silenceAfter_join (s : State) (i : Fin 65) (m : StreamId) (p : Half) (t : Word) :
    (s.join i).silenceAfter m p t = (s.silenceAfter m p t).join i := by
  unfold State.silenceAfter
  split <;> rfl

theorem State.setStream_join (s : State) (i : Fin 65) (n : StreamId) (st : Stream) :
    (s.join i).setStream n st = (s.setStream n st).join i := rfl

/-- The margin of the burst a stream anchors on is D, and an anchoring after the first is a resync (R27, R29). -/
theorem Stream.anchored_eq (st : Stream) (b : BufferId) (f : Frame) (l : LinkId) (t : Word) :
    Stream.countAnchoring { (Stream.noteMargin
        (Stream.margin { st with head := f.sequence, headDeadline := t + st.config.d, fillsInRow := 0 } 0 t)
        { st with
          head := f.sequence, headDeadline := t + st.config.d, fillsInRow := 0
          window := st.window.set 0 (some (slotBurst b f l t)), earlyRun := 0 }) with
      state := .running, changed := true } = st.anchored (slotBurst b f l t) := by
  rw [Stream.noteMargin_eq]
  simp only [Stream.margin, margin_at_anchor]
  unfold Stream.countAnchoring Stream.anchored slotBurst
  cases h : st.anchoredOnce with
  | true => simp [Stream.tally]
  | false => simp

theorem State.filled_setStream (s : State) (n : StreamId) (st : Stream) (b : BufferId) (pool : List BufferId)
    (x : List Half) : (s.setStream n st).filled b pool x = (s.filled b pool x).setStream n st := rfl

/-- A stream that does not run anchors on a burst (R27 to R29, R35). -/
theorem State.anchor_eq (s : State) (n : StreamId) (f : Frame) (l : LinkId) {b : BufferId} {pool : List BufferId}
    (hp : s.store.pool = b :: pool) (hs : (s.stream n).state ≠ .running) :
    s.anchor n f l = some (((((s.filled b pool f.samples).setStream n
      ((s.stream n).anchored (slotBurst b f l s.time.tick))).join n.castSucc).arm n .head
        (s.time.tick + (s.stream n).config.d)).silenceAfter n (s.stream n).config.silence s.time.tick) := by
  unfold State.anchor State.modStream
  dsimp only
  rw [State.placeBurst_eq _ n f l b pool (by exact hp) 0, Stream.noteMargin_eq]
  simp only [State.filled_setStream, State.setStream_setStream, State.stream_setStream_self, State.arm_setStream,
    State.armSilence_eq, State.silenceAfter_setStream, State.changeState_setStream, if_neg hs, State.stream_join,
    State.time_setStream]
  rw [← Stream.anchored_eq, Stream.noteMargin_eq, State.join_arm, State.arm_setStream, State.silenceAfter_join,
    State.silenceAfter_setStream, State.setStream_join, State.setStream_setStream]

/-- A RUNNING stream, its window flushed, anchors anew: its state does not change (R29, R33). -/
theorem State.anchor_eq_of_running (s : State) (n : StreamId) (f : Frame) (l : LinkId) {b : BufferId}
    {pool : List BufferId} (hp : s.store.pool = b :: pool) (hs : (s.stream n).state = .running) :
    s.anchor n f l = some ((((s.filled b pool f.samples).setStream n
      { (s.stream n).anchored (slotBurst b f l s.time.tick) with
        changed := (s.stream n).changed || (s.stream n).config.d.slt (s.stream n).minMargin
          || (s.stream n).anchoredOnce }).arm n .head
        (s.time.tick + (s.stream n).config.d)).silenceAfter n (s.stream n).config.silence s.time.tick) := by
  unfold State.anchor State.modStream
  dsimp only
  rw [State.placeBurst_eq _ n f l b pool (by exact hp) 0, Stream.noteMargin_eq]
  simp only [State.filled_setStream, State.setStream_setStream, State.stream_setStream_self, State.arm_setStream,
    State.armSilence_eq, State.silenceAfter_setStream, State.changeState_setStream, if_pos hs, Stream.margin]
  unfold Stream.countAnchoring Stream.anchored slotBurst
  cases h : (s.stream n).anchoredOnce with
  | true => simp [Stream.tally, hs]
  | false => simp [hs]

end Sys2Proof.Machine
end

section
/-! The laws of windows, closing sequences and buffers are kept by every command, and so by every step (O55, O56, O57). -/

namespace Sys2Proof.Machine

open Sys2Proof

/-! ### Offers -/

/-- An open stream with an empty window anchors on a burst; it finds the buffer it claims (R18, R27). -/
theorem State.Orderly.anchor {s : State} (h : s.Orderly) {n : StreamId} (ho : (s.stream n).isOpen)
    (hw : ∀ x ∈ (s.stream n).window, x = none) (f : Frame) (l : LinkId) :
    ∃ t, s.anchor n f l = some t ∧ t.Orderly := by
  have hslot : (s.stream n).window[0]? = some none := by
    have hl := (h.stream n).slots
    have h2 := ((h.stream n).sized ho.1).1
    rw [List.getElem?_eq_getElem (by omega)]
    exact congrArg some (hw _ (List.getElem_mem _))
  obtain ⟨b, pool, hp⟩ := h.claims ho hslot
  have placed (changed : Bool) : ((s.filled b pool f.samples).setStream n
      { (s.stream n).anchored (slotBurst b f l s.time.tick) with changed := changed }).Orderly :=
    h.place ho hp hslot (c := slotBurst b f l s.time.tick)
      (st := { (s.stream n).anchored (slotBurst b f l s.time.tick) with changed := changed }) rfl rfl rfl rfl rfl
      (congrArg BitVec.toNat (BitVec.sub_self (slotBurst b f l s.time.tick).sequence)) (.inr hw) rfl rfl f.samples
  by_cases hs : (s.stream n).state = .running
  · exact ⟨_, s.anchor_eq_of_running n f l hp hs,
      ((placed _).beside (State.beside_arm _ n _ _)).beside (State.beside_silenceAfter _ n _ _)⟩
  · exact ⟨_, s.anchor_eq n f l hp hs, (((placed true).beside (State.beside_join _ _)).beside
      (State.beside_arm _ n _ _)).beside (State.beside_silenceAfter _ n _ _)⟩

theorem State.Orderly.offerToWaiting {s : State} (h : s.Orderly) {n : StreamId} (ho : (s.stream n).isOpen)
    (hw : ∀ x ∈ (s.stream n).window, x = none) (f : Frame) (l : LinkId) :
    ∃ t, s.offerToWaiting n f l = some t ∧ t.Orderly := by
  unfold State.offerToWaiting
  split
  · exact ⟨_, rfl, h.modStream n _ ⟨rfl, rfl, rfl, rfl, rfl, rfl⟩ rfl id⟩
  · exact h.anchor ho hw f l

theorem State.Orderly.resync {s : State} (h : s.Orderly) {n : StreamId} (ho : (s.stream n).isOpen) (f : Frame)
    (l : LinkId) : ∃ t, s.resync n f l = some t ∧ t.Orderly := by
  obtain ⟨hstate, hclosing, -, hwindow⟩ := s.stream_flushWindow n
  have h1 := (h.flushWindow ho).beside (State.beside_alarm _ n)
  have open1 : ((s.flushWindow n).stream n).isOpen := ⟨hstate ▸ ho.1, hclosing.trans ho.2⟩
  have empty1 : ∀ x ∈ ((s.flushWindow n).stream n).window, x = none := by simp [hwindow]
  unfold State.resync
  dsimp only
  split
  · refine ⟨_, rfl, ((h1.beside (State.beside_cancel _ n .head)).modStream n
      (fun st => { st with earlyRun := 0 }) ⟨rfl, rfl, rfl, rfl, rfl, rfl⟩ rfl
      (fun _ => Nat.zero_le 15)).changeState ?_ (by simp) (.inl ?_)⟩
    · rw [State.stream_modStream_self, State.stream_cancel, State.stream_alarm]
      exact open1
    · rw [State.stream_modStream_self, State.stream_cancel, State.stream_alarm]
      exact empty1
  · refine h1.anchor ?_ ?_ f l
    · rw [State.stream_alarm]
      exact open1
    · rw [State.stream_alarm]
      exact empty1

theorem State.Orderly.offerEarly {s : State} (h : s.Orderly) {n : StreamId} (ho : (s.stream n).isOpen) (f : Frame)
    (l : LinkId) : ∃ t, s.offerEarly n f l = some t ∧ t.Orderly := by
  have h1 := h.modStream n (fun st =>
    ({ st with earlyRun := earlyRunAfter st.earlyRun } : Stream).tally (fun c => { c with early := c.early + 1 }))
    ⟨rfl, rfl, rfl, rfl, rfl, rfl⟩ rfl (fun _ => earlyRunAfter_le _)
  unfold State.offerEarly
  dsimp only
  split
  · exact ⟨_, rfl, h1⟩
  · refine h1.resync ?_ f l
    rw [State.stream_modStream_self]
    exact ho

/-- A slot of the window holds a burst or is empty. -/
theorem getElem?_of_getD_isNone {w : List (Option Burst)} {o : Nat} (ho : o < w.length)
    (h : ¬ (w.getD o none).isSome = true) : w[o]? = some none := by
  rw [List.getElem?_eq_getElem ho]
  rw [List.getD_eq_getElem _ _ ho] at h
  cases hw : w[o] with
  | none => rfl
  | some b => exact absurd (by rw [hw]; rfl) h

theorem State.Orderly.storeBurst {s : State} (h : s.Orderly) {n : StreamId} (hs : (s.stream n).state = .running)
    (f : Frame) (hslot : (s.stream n).window[(s.stream n).offset f.sequence]? = some none) (l : LinkId) :
    ∃ t, s.storeBurst n ((s.stream n).offset f.sequence) f l = some t ∧ t.Orderly := by
  have ho : (s.stream n).isOpen := h.isOpen (by simp [hs])
  obtain ⟨b, pool, hp⟩ := h.claims ho hslot
  refine ⟨_, s.storeBurst_eq n _ f l hp, State.Orderly.beside ?_ (State.beside_silenceAfter _ n _ _)⟩
  rw [Stream.noteMargin_eq]
  exact h.place ho hp hslot (c := slotBurst b f l s.time.tick) (st := { s.stream n with
    window := (s.stream n).window.set ((s.stream n).offset f.sequence) (some (slotBurst b f l s.time.tick))
    earlyRun := 0, minMargin := _, changed := _ }) rfl rfl rfl rfl hs rfl (.inl rfl) rfl rfl f.samples

theorem State.Orderly.offerToRunning {s : State} (h : s.Orderly) {n : StreamId} (hs : (s.stream n).state = .running)
    (f : Frame) (l : LinkId) : ∃ t, s.offerToRunning n f l = some t ∧ t.Orderly := by
  unfold State.offerToRunning
  dsimp only
  split
  · rename_i hlt
    split
    · exact ⟨_, rfl, h.modStream n _ ⟨rfl, rfl, rfl, rfl, rfl, rfl⟩ rfl id⟩
    · exact h.storeBurst hs f (getElem?_of_getD_isNone ((h.stream n).slots ▸ hlt) ‹_›) l
  · split
    · exact h.offerEarly (h.isOpen (by simp [hs])) f l
    · exact ⟨_, rfl, h.modStream n _ ⟨rfl, rfl, rfl, rfl, rfl, rfl⟩ rfl id⟩

/-- A stream takes an offer in every state, and keeps the laws (R18, R25). -/
theorem State.Orderly.takeOffer {s : State} (h : s.Orderly) (n : StreamId) (f : Frame) (l : LinkId) :
    ∃ t, s.takeOffer n f l = some t ∧ t.Orderly := by
  have waiting (hs : (s.stream n).state = .acquiring ∨ (s.stream n).state = .stalled ∨ (s.stream n).state = .cut) :
      ∃ t, s.offerToWaiting n f l = some t ∧ t.Orderly := by
    refine h.offerToWaiting (h.isOpen ?_) (fun x hx => ?_) f l
    · rcases hs with e | e | e <;> simp [e]
    · cases x with
      | none => rfl
      | some b =>
        have := (h.stream n).held b hx
        rcases hs with e | e | e <;> simp [e] at this
  unfold State.takeOffer
  split
  · exact ⟨_, rfl, h.beside s.beside_refuseOffer⟩
  · exact ⟨_, rfl, h.beside s.beside_refuseOffer⟩
  · exact waiting (.inl ‹_›)
  · exact waiting (.inr (.inl ‹_›))
  · exact waiting (.inr (.inr ‹_›))
  · exact h.offerToRunning ‹_› f l

/-! ### Pages and stream orders -/

/-- A page state changes and gives up pages only (R78). -/
theorem State.Orderly.modPage {s : State} (h : s.Orderly) (n : StreamId) (f : PageState → PageState)
    (supply : (f (s.page n)).supply = (s.page n).supply)
    (current : (s.page n).current = none → (f (s.page n)).current = none)
    (closingPage : (s.page n).closingPage = none → (f (s.page n)).closingPage = none) : (s.modPage n f).Orderly := by
  have hc := h.closing n
  refine h.alike (s.only_modPage_same n f supply) rfl ⟨rfl, rfl, rfl, rfl, rfl, rfl⟩ ?_
  rw [State.page_modPage_self]
  exact {
    closed := fun e => by
      obtain ⟨h1, h2, h3, h4, h5, h6⟩ := hc.closed e
      exact ⟨h1, h2, supply.trans h3, current h4, closingPage h5, h6⟩
    draining := hc.draining
    waitLane := hc.waitLane
    later := fun c e p => by
      obtain ⟨h1, h2, h3⟩ := hc.later c e p
      exact ⟨h1, current h2, h3⟩
    returns := fun c e p => by
      obtain ⟨h1, h2⟩ := hc.returns c e p
      exact ⟨closingPage h1, fun r => supply.trans (h2 r)⟩
    giveBack := hc.giveBack
    onePage := hc.onePage.imp current closingPage }

/-- The current page becomes the closing page (R86). -/
theorem State.Orderly.beginPageClose {s : State} (h : s.Orderly) (n : StreamId) (r : CloseReason) (w i : Bool) :
    (s.beginPageClose n r w i).Orderly := by
  unfold State.beginPageClose
  split
  · rename_i p hp
    have hc := h.closing n
    have phase (c : Closing) (e : (s.stream n).closing = some c) : c.phase = .waitLane := by
      by_contra hn
      have := (hc.later c e hn).2.1
      simp [hp] at this
    refine State.Orderly.beside (h.alike (s.only_modPage_same n _ rfl) rfl ⟨rfl, rfl, rfl, rfl, rfl, rfl⟩ ?_)
      (State.beside_cancel _ n _)
    rw [State.page_modPage_self]
    exact {
      closed := fun e => by
        obtain ⟨-, -, -, h4, -⟩ := hc.closed e
        simp [hp] at h4
      draining := hc.draining
      waitLane := hc.waitLane
      later := fun c e p => absurd (phase c e) p
      returns := fun c e p => by rw [phase c e] at p; rcases p with p | p <;> cases p
      giveBack := hc.giveBack
      onePage := .inl rfl }
  · exact h

/-- The supply of an open stream is replaced (R77). -/
theorem State.Orderly.setSupply {s : State} (h : s.Orderly) {n : StreamId} (ho : (s.stream n).isOpen) (l : List Word)
    (bound : (s.page n).supply.length ≤ 16 → l.length ≤ 16) : (s.setSupply n l).Orderly := by
  refine h.alike (s.only_setSupply n l bound) rfl ?_ ?_
  · rw [State.stream_setSupply_self]
    exact ⟨rfl, rfl, rfl, rfl, rfl, rfl⟩
  · rw [State.stream_setSupply_self, State.page_setSupply_self]
    exact .of_open ho (h.not_giving ho.2) (h.closing n).onePage

/-- A CLOSED stream is set up with a reservation that the Burst Store has room for (R6, R17). -/
theorem State.Orderly.openStream {s : State} (h : s.Orderly) {n : StreamId} {c : StreamConfig}
    (hs : (s.stream n).state = .closed) (hc : c.sized) (hr : s.roomFor c = true) : (s.openStream n c).Orderly := by
  have hroom : s.store.reserved + (c.w + c.q) ≤ 512 := by
    unfold State.roomFor Config.bufferCount at hr
    simpa using hr
  have held : (Stream.opened c (s.stream n)).heldBuffers = [] := by
    have : (List.replicate c.w (none : Option Burst)).filterMap id = [] :=
      filterMap_eq_nil_of_empty (by simp [List.mem_replicate])
    simp only [Stream.heldBuffers, Stream.opened, this, List.map_nil, List.flatMap_nil, List.append_nil]
  unfold State.openStream
  dsimp only
  refine State.Orderly.beside (State.Orderly.beside ?_ (State.beside_join _ _)) (State.beside_armSilence _ n _)
  refine h.only (((s.only_store n _).trans (State.only_modStream _ n _ (fun _ => Nat.zero_le _)
    (fun _ => Nat.zero_le _))).trans (State.only_setPage _ n _ (fun _ => Nat.zero_le _))) ⟨?_, ?_, fun _ => hroom⟩ ?_ ?_
  · rw [State.stream_setPage, State.stream_modStream_self, h.heldBuffers_of_closed hs]
    show (s.store.pool ++ (Stream.opened c (s.stream n)).heldBuffers).Perm _
    rw [held]
  · rw [State.stream_setPage, State.stream_modStream_self]
    simp only [State.store_setPage, State.store_modStream, Stream.reservation, hs, Stream.opened]
    simp
  · rw [State.stream_setPage, State.stream_modStream_self]
    exact {
      slots := List.length_replicate
      sized := fun _ => hc
      placed := fun o b e => absurd (List.mem_of_getElem? e) (by simp [Stream.opened, List.mem_replicate])
      held := fun b e => absurd e (by simp [Stream.opened, List.mem_replicate])
      queue := Nat.zero_le _ }
  · rw [State.stream_setPage, State.stream_modStream_self, State.page_setPage_self]
    exact .of_open ⟨by simp [Stream.opened], rfl⟩ (h.not_giving ((h.closing n).closed hs).1) (.inl rfl)

/-- An accepted drain (R9). -/
theorem State.Orderly.drainClose {s : State} (h : s.Orderly) {n : StreamId} (ho : (s.stream n).isOpen)
    (ref : RecordRef) : (s.drainClose ref n).Orderly := by
  have held := (s.beside_setWalker { s.walker with
    held := s.walker.held ++ [{ ref := ref, stream := n, takenWritten := false, settled := false }]
    activity := .taken ref (.drain n) } (by simp)).trans (State.beside_cancel _ n .silence)
  have drained (u : State) (hb : s.Beside u) : ((u.changeState n .draining).testDrained n).Orderly :=
    ((h.beside hb).changeState (by rw [hb.stream]; exact ho) (by simp) (.inr (.inr rfl))).testDrained n
  unfold State.drainClose
  dsimp only
  split
  · exact drained _ (held.trans (State.beside_cancel _ n _))
  · exact drained _ held

theorem State.Orderly.alterStream {s : State} (h : s.Orderly) (n : StreamId) (a : Alteration) :
    (s.alterStream n a).Orderly :=
  (h.modStream n (fun st => { st with config := st.config.altered a }) ⟨rfl, rfl, rfl, rfl, rfl, rfl⟩ rfl id).beside
    (s.alterStream_beside n a)

/-! ### The write lane -/

theorem laneWork_close {st : Stream} {pg : PageState} (h : laneWork st pg = some .close) :
    ∃ p, pg.closingPage = some p := by
  unfold laneWork at h
  split at h
  · exact ⟨_, ‹_›⟩
  · split at h
    · cases h
    · split at h <;> cases h

theorem laneWork_giveBack {st : Stream} {pg : PageState} (h : laneWork st pg = some .giveBack) :
    pg.closingPage = none ∧ ∃ c, st.closing = some c ∧ c.phase = .returnDue := by
  unfold laneWork at h
  split at h
  · split at h <;> cases h
  · rename_i hp
    split at h
    · rename_i hr
      unfold Stream.returnDue at hr
      split at hr
      · rename_i c hc
        exact ⟨hp, c, hc, eq_of_beq hr⟩
      · cases hr
    · split at h <;> cases h

theorem laneWork_record {st : Stream} {pg : PageState} (h : laneWork st pg = some .record) :
    pg.closingPage = none ∧ st.queue ≠ [] := by
  unfold laneWork at h
  split at h
  · split at h <;> cases h
  · rename_i hp
    split at h
    · cases h
    · split at h
      · rename_i hr
        refine ⟨hp, fun hq => ?_⟩
        simp [canPlace, hq] at hr
      · cases h

/-- The lane begins to write a record of an open stream (R83). -/
theorem State.Orderly.beginRecordOp {s : State} (h : s.Orderly) {n : StreamId} (ho : (s.stream n).isOpen)
    (free : s.lane.op = none) (tick : Word) (txs : List Tx) : (s.beginOp n (.record n tick) txs).Orderly :=
  h.alike (s.only_beginOp_free n _ txs free rfl) rfl ⟨rfl, rfl, rfl, rfl, rfl, rfl⟩
    (.of_open ho (fun g => nomatch g) (h.closing n).onePage)

/-- A page is opened for a stream that is not past the first step of its closing sequence (R83). -/
theorem State.Orderly.openPage {s : State} (h : s.Orderly) {n : StreamId} (hs : (s.stream n).state ≠ .closed)
    (hc : ∀ c, (s.stream n).closing = some c → c.phase = .waitLane) (hp : (s.page n).closingPage = none)
    (tick : Word) : (s.openPage n tick).Orderly := by
  cases hcur : (s.page n).current with
  | some p =>
    have : s.openPage n tick = s := by
      unfold State.openPage
      rw [hcur]
    rw [this]
    exact h
  | none =>
    cases hsup : (s.page n).supply with
    | nil =>
      have : s.openPage n tick = s := by
        unfold State.openPage
        rw [hcur, hsup]
      rw [this]
      exact h
    | cons a rest =>
      have o := s.only_openPage n tick
      rw [s.openPage_eq n a rest tick hcur hsup] at o ⊢
      have old := h.closing n
      refine h.alike o rfl ?_ ?_
      · rw [State.stream_setStream_self]
        exact ⟨rfl, rfl, rfl, rfl, rfl, rfl⟩
      · rw [State.stream_setStream_self, State.page_setStream, State.page_setPage_self]
        exact {
          closed := fun e => absurd e hs
          draining := old.draining
          waitLane := old.waitLane
          later := fun c e p => absurd (hc c e) p
          returns := fun c e p => by rw [hc c e] at p; rcases p with p | p <;> cases p
          giveBack := old.giveBack
          onePage := .inr hp }

theorem State.Orderly.issueClose {s : State} (h : s.Orderly) (n : StreamId) : (s.issueClose n).1.Orderly := by
  rw [State.issueClose_fst]
  refine h.modPage n _ rfl id (fun e => ?_)
  unfold PageState.issued
  rw [e]
  rfl

/-- A stream that has a record to place while the lane is free is open: a closing one has no record left (R13, R81). -/
theorem State.Orderly.open_of_record {s : State} (h : s.Orderly) {n : StreamId} (hq : (s.stream n).queue ≠ [])
    (free : s.lane.op = none) : (s.stream n).isOpen := by
  have quiet : s.recordInFlight n = false := by simp [State.recordInFlight, free]
  refine ⟨fun e => hq ((h.closing n).closed e).2.1, ?_⟩
  cases hc : (s.stream n).closing with
  | none => rfl
  | some c =>
    by_cases hp : c.phase = .waitLane
    · exact absurd (((h.closing n).waitLane c hc hp).resolve_right (by simp [quiet])) hq
    · exact absurd ((h.closing n).later c hc hp).1 hq

theorem State.stream_openPage (s : State) (n : StreamId) (tick : Word) :
    ((s.openPage n tick).stream n).state = (s.stream n).state
      ∧ ((s.openPage n tick).stream n).closing = (s.stream n).closing := by
  unfold State.openPage
  split
  · simp
  · exact ⟨rfl, rfl⟩
  · exact ⟨rfl, rfl⟩

theorem State.Orderly.beginRecord {s : State} (h : s.Orderly) {n : StreamId} (hs : s.laneServes n .record) :
    (s.beginRecord n).Orderly := by
  obtain ⟨hp, hq⟩ := laneWork_record (State.laneWork_of_serves hs)
  have free := hs.2.1
  have ho := h.open_of_record hq free
  unfold State.beginRecord
  dsimp only
  split
  · split
    · exact h.beginRecordOp ho free _ _
    · refine ((h.beginPageClose n .full false false).issueClose n).beginRecordOp ?_ ?_ _ _
      · rw [State.issueClose_fst, State.stream_modPage]
        unfold State.beginPageClose
        split <;> exact ho
      · rw [State.issueClose_lane, (s.closingFrame_beginPageClose n .full false false).lane]
        exact free
  · refine (h.openPage ho.1 (by simp [ho.2]) hp _).beginRecordOp ?_ (by rw [State.openPage_lane]; exact free) _ _
    obtain ⟨h1, h2⟩ := s.stream_openPage n s.time.tick
    exact ⟨h1 ▸ ho.1, h2.trans ho.2⟩
  · exact h

/-- The lane is free again: a stream that waits for it at the first step of its closing sequence has no record left. -/
theorem State.Orderly.laneFree {s : State} (h : s.Orderly) {n : StreamId}
    (was : ∀ o, s.lane.op = some o → o.stream = n)
    (hq : ∀ c, (s.stream n).closing = some c → c.phase = .waitLane → (s.stream n).queue = []) :
    s.laneFree.Orderly := by
  have hc := h.closing n
  refine h.alike (s.only_laneFree n was) rfl ⟨rfl, rfl, rfl, rfl, rfl, rfl⟩ ?_
  exact {
    closed := fun e => by
      obtain ⟨h1, h2, h3, h4, h5, -⟩ := hc.closed e
      exact ⟨h1, h2, h3, h4, h5, rfl⟩
    draining := hc.draining
    waitLane := fun c e p => .inl (hq c e p)
    later := fun c e p => by
      obtain ⟨h1, h2, -⟩ := hc.later c e p
      exact ⟨h1, h2, rfl⟩
    returns := hc.returns
    giveBack := fun g => nomatch g
    onePage := hc.onePage }

/-- A free lane neither writes a record nor returns a supply. -/
theorem State.quiet_of_free {s : State} (h : s.lane.op = none) (n : StreamId) :
    s.recordInFlight n = false ∧ ¬ s.giving n := by
  refine ⟨by simp [State.recordInFlight, h], fun g => ?_⟩
  unfold State.giving at g
  rw [h] at g
  cases g

theorem PageState.countRecord_pages (pg : PageState) (sequence : Half) (r : Nat) :
    (pg.current = none → (pg.countRecord sequence r).current = none)
      ∧ (pg.closingPage = none → (pg.countRecord sequence r).closingPage = none) := by
  unfold PageState.countRecord
  split
  · rename_i hc
    exact ⟨fun e => absurd (hc.symm.trans e) (by simp), id⟩
  · exact ⟨id, fun e => by simp [e]⟩

/-- A closing stream with a record in flight waits for the lane, and the record is its last (R12). -/
theorem State.Orderly.last_record {s : State} (h : s.Orderly) {n : StreamId} {r : QueueRecord}
    {rest : List QueueRecord} (hq : (s.stream n).queue = r :: rest) {c : Closing}
    (hc : (s.stream n).closing = some c) : c.phase = .waitLane ∧ rest = [] := by
  have hp : c.phase = .waitLane := by
    by_contra hn
    have := ((h.closing n).later c hc hn).1
    simp [hq] at this
  refine ⟨hp, ?_⟩
  rcases (h.closing n).waitLane c hc hp with e | ⟨e, -⟩
  · simp [hq] at e
  · simpa [hq] using e

/-- The queue-head record leaves the queue, and its buffer goes back to the pool (R84). -/
theorem State.Orderly.recordGone {s : State} (h : s.Orderly) {n : StreamId} {r : QueueRecord}
    {rest : List QueueRecord} (hq : (s.stream n).queue = r :: rest) :
    ((s.modStream n (fun st => { st with queue := rest })).freeBuffers r.content.buffers).Orderly := by
  have hs := h.stream n
  have hc := h.closing n
  have hl : rest.length ≤ (s.stream n).config.q := by
    have := hs.queue
    rw [hq] at this
    exact (Nat.le_succ _).trans this
  refine h.only ((s.only_modStream n _ (fun _ => hl) id).trans (State.only_freeBuffers _ n _))
    ⟨perm_of_count fun x => ?_, ?_, id⟩ ?_ ?_
  · rw [State.stream_freeBuffers, State.stream_modStream_self]
    show ((r.content.buffers ++ s.store.pool) ++ _).count x = _
    simp only [Stream.heldBuffers, hq, List.flatMap_cons, List.count_append]
    omega
  · rw [State.stream_freeBuffers, State.stream_modStream_self]
    rfl
  · rw [State.stream_freeBuffers, State.stream_modStream_self]
    exact { hs with queue := hl }
  · rw [State.stream_freeBuffers, State.stream_modStream_self]
    exact {
      closed := fun e => by
        obtain ⟨-, h2, -⟩ := hc.closed e
        simp [hq] at h2
      draining := hc.draining
      waitLane := fun c e _ => .inl (h.last_record hq e).2
      later := fun c e p => absurd (h.last_record hq e).1 p
      returns := hc.returns
      giveBack := hc.giveBack
      onePage := hc.onePage }

/-- The write of a stream's queue-head record has completed (R84). -/
theorem State.Orderly.recordWritten {s : State} (h : s.Orderly) {n : StreamId}
    (was : ∀ o, s.lane.op = some o → o.stream = n) : (s.recordWritten n).Orderly := by
  unfold State.recordWritten
  split
  · exact h.laneFree was (fun _ _ _ => ‹_›)
  · rename_i r rest hq
    dsimp only
    have h2 := (h.recordGone hq).modPage n (PageState.countRecord r.sequence (recordSize r.count))
      (PageState.countRecord_supply _ _ _) (PageState.countRecord_pages _ _ _).1 (PageState.countRecord_pages _ _ _).2
    have h3 := (h2.beside (State.beside_armAge _ n)).laneFree (n := n)
      (by rw [(State.beside_armAge _ n).laneOp]; exact was) (fun c e _ => by
        rw [(State.beside_armAge _ n).stream, State.stream_modPage, State.stream_freeBuffers,
          State.stream_modStream_self] at e ⊢
        exact (h.last_record hq e).2)
    obtain ⟨hw, hg⟩ := State.quiet_of_free
      (s := (State.armAge n ((State.freeBuffers r.content.buffers (s.modStream n (fun st => { st with queue := rest }))).modPage
        n (PageState.countRecord r.sequence (recordSize r.count)))).laneFree) rfl n
    exact (h3.laneDone hw hg).testDrained n

theorem State.stream_pageClosed (s : State) (n : StreamId) :
    ((s.pageClosed n).stream n).closing = (s.stream n).closing ∧ ((s.pageClosed n).stream n).queue = (s.stream n).queue
      ∧ ((s.pageClosed n).stream n).state = (s.stream n).state := by
  simp [State.pageClosed, Stream.tally]

theorem State.page_pageClosed (s : State) (n : StreamId) :
    (s.pageClosed n).page n = { s.page n with closingPage := none } := by
  simp [State.pageClosed]

theorem State.Orderly.pageClosed {s : State} (h : s.Orderly) (n : StreamId) : (s.pageClosed n).Orderly :=
  (((h.modPage n (fun pg => { pg with closingPage := none }) rfl id (fun _ => rfl)).modStream n
    (Stream.tally (fun c => { c with pagesClosed := c.pagesClosed + 1 })) ⟨rfl, rfl, rfl, rfl, rfl, rfl⟩ rfl id).beside
      (State.beside_join _ _)).beside (State.beside_raiseIf _ _ _)

/-- The closing sequence goes on after its page's close (R12, R88). -/
theorem State.Orderly.closeDone {s : State} (h : s.Orderly) {n : StreamId} (hp : (s.page n).closingPage = none)
    (hw : s.recordInFlight n = false) (hg : ¬ s.giving n) : (s.closeDone n).Orderly := by
  unfold State.closeDone
  split
  · rename_i c hc
    split
    · rename_i hph
      exact h.closeStep2 hc (((h.closing n).waitLane c hc hph).resolve_right (by simp [hw])) hw hg _
    · rename_i hph
      obtain ⟨h1, h2, -⟩ := (h.closing n).later c hc (by simp [hph])
      exact h.closeStep3 hc ⟨h1, h2, hp, hw, hg⟩
    all_goals exact h
  · exact h

/-- A close operation of its own has completed (R88). -/
theorem State.Orderly.closeFinished {s : State} (h : s.Orderly) {n : StreamId}
    (hop : s.lane.op = some (.pageClose n)) : (s.closeFinished n).Orderly := by
  have hw : s.recordInFlight n = false := by simp [State.recordInFlight, hop]
  obtain ⟨hclosing, hqueue, -⟩ := s.stream_pageClosed n
  have h1 : ((s.pageClosed n).laneFree).Orderly := (h.pageClosed n).laneFree (n := n)
    (by
      rw [State.pageClosed_lane, hop]
      rintro o ⟨⟩
      rfl)
    (fun c e p => by
      rw [hclosing] at e
      rw [hqueue]
      exact ((h.closing n).waitLane c e p).resolve_right (by simp [hw]))
  have done (u : State) (hu : ((s.pageClosed n).laneFree).Beside u) : (u.closeDone n).Orderly := by
    obtain ⟨q1, q2⟩ := State.quiet_of_free (s := u) (hu.laneOp) n
    refine (h1.beside hu).closeDone ?_ q1 q2
    rw [hu.page, State.page_laneFree, State.page_pageClosed]
  unfold State.closeFinished
  dsimp only
  split
  · exact done _ (State.beside_flushDone _ n)
  · exact done _ (.refl _)

/-- The FULL close of a record operation has completed, and the next page is opened (R83, R88). -/
theorem State.Orderly.fullFinished {s : State} (h : s.Orderly) {n : StreamId} {begun : Word}
    (hop : s.lane.op = some (.record n begun)) : (s.fullFinished n begun).Orderly := by
  have hw : s.recordInFlight n = true := (s.recordInFlight_iff n).2 ⟨begun, hop⟩
  obtain ⟨hclosing, -, hstate⟩ := s.stream_pageClosed n
  refine ((h.pageClosed n).openPage (n := n) ?_ ?_ ?_ begun).beside (State.beside_todo _ _)
  · rw [hstate]
    intro e
    obtain ⟨-, -, -, -, -, h6⟩ := (h.closing n).closed e
    simp [hw] at h6
  · intro c e
    rw [hclosing] at e
    by_contra hn
    have := ((h.closing n).later c e hn).2.2
    simp [hw] at this
  · rw [State.page_pageClosed]

/-- The supply of a stream at the return step of its closing sequence is given back (R94). -/
theorem State.Orderly.returnIssued {s : State} (h : s.Orderly) {n : StreamId} (hs : s.laneServes n .giveBack)
    (k : Nat) (txs : List Tx) :
    (((s.setSupply n []).modStream n (fun st =>
      { st with closing := st.closing.map (fun c => { c with phase := .returning, returned := k }) })).beginOp n
        (.giveBack n) txs).Orderly := by
  obtain ⟨hp, c, hc, hph⟩ := laneWork_giveBack (State.laneWork_of_serves hs)
  obtain ⟨hd, hn⟩ := (h.closing n).draining c hc
  obtain ⟨hq, hcur, -⟩ := (h.closing n).later c hc (by simp [hph])
  refine h.alike (((s.only_setSupply n [] (fun _ => Nat.zero_le _)).trans
    (State.only_modStream_same _ n _ rfl rfl rfl)).trans (State.only_beginOp_free _ n _ _ hs.2.1 rfl)) rfl ?_ ?_
  · rw [State.stream_beginOp, State.stream_modStream_self, State.stream_setSupply_self]
    exact ⟨rfl, rfl, rfl, rfl, rfl, rfl⟩
  · rw [State.stream_beginOp, State.stream_modStream_self, State.stream_setSupply_self, State.page_beginOp,
      State.page_modStream, State.page_setSupply_self]
    exact {
      closed := fun e => absurd (hd.symm.trans e) (by simp)
      draining := fun _ _ => ⟨hd, hn⟩
      waitLane := fun _ _ _ => .inl hq
      later := fun _ _ _ => ⟨hq, hcur, rfl⟩
      returns := fun _ _ _ => ⟨hp, fun _ => rfl⟩
      giveBack := fun _ => ⟨{ c with phase := .returning, returned := k }, by rw [hc]; rfl, rfl⟩
      onePage := .inl hcur }

/-- The return of the supply has completed: the stream is closed out (R12, R94). -/
theorem State.Orderly.returned {s : State} (h : s.Orderly) {n : StreamId} (hop : s.lane.op = some (.giveBack n))
    (k : Nat) : (s.laneFree.closeStep4 n k).Orderly := by
  obtain ⟨c, hc, hph⟩ := (h.closing n).giveBack hop
  obtain ⟨hq, hcur, -⟩ := (h.closing n).later c hc (by simp [hph])
  obtain ⟨hp, hsup⟩ := (h.closing n).returns c hc (.inr hph)
  have h1 : s.laneFree.Orderly := h.laneFree (n := n)
    (by
      rw [hop]
      rintro o ⟨⟩
      rfl)
    (fun _ _ _ => hq)
  exact h1.closeStep4 (n := n) hc ⟨hq, hcur, hp, rfl, fun g => nomatch g⟩ (hsup hph) k

theorem State.Orderly.snapRecord {s : State} (h : s.Orderly) (i : Fin 65) (zero : Bool) :
    (s.snapRecord i zero).Orderly := by
  have device : s.Beside { s with tally := { s.tally with deviceChanged := zero && s.deviceCounted } } :=
    s.beside_tally _
  unfold State.snapRecord
  split
  · exact h.modStream _ _ ⟨rfl, rfl, rfl, rfl, rfl, rfl⟩ rfl id
  · dsimp only
    split
    · refine h.beside (device.trans ?_)
      apply State.Beside.of_eq <;> rfl
    · exact h.beside device

/-! ### The commands -/

/-- The outcome is a next state that keeps the laws, after which the stop sequence may go on. -/
def keepsOrder (o : Host.Outcome State Fault Refusal) : Prop :=
  ∃ u, State.Orderly u ∧ (o = .next u ∨ o = .next u.advanceStop)

theorem State.Orderly.next {u : State} (h : u.Orderly) : keepsOrder (.next u) := ⟨u, h, .inl rfl⟩

theorem State.Orderly.advance {u : State} (h : u.Orderly) : keepsOrder (.next u.advanceStop) := ⟨u, h, .inr rfl⟩

section
variable {s : State} (h : s.Orderly)
include h

theorem execHeadExpiry_keepsOrder (n : StreamId) : keepsOrder (execHeadExpiry n s) := by
  unfold execHeadExpiry
  split
  · exact h.next
  · rename_i due _
    obtain ⟨t, e, ht⟩ := (h.beside (s.beside_cancel n .head)).headExpiry n due
    rw [e]
    exact ht.next

theorem execSilenceExpiry_keepsOrder (n : StreamId) : keepsOrder (execSilenceExpiry n s) := by
  unfold execSilenceExpiry
  split
  · exact h.next
  · exact ((h.beside (s.beside_cancel n _)).silenceExpiry n).next

theorem execAgeExpiry_keepsOrder (n : StreamId) : keepsOrder (execAgeExpiry n s) := by
  unfold execAgeExpiry
  split
  · exact h.next
  · exact ((h.beside (s.beside_cancel n _)).beginPageClose n _ _ _).next

theorem execOffer_keepsOrder : keepsOrder (execOffer s) := by
  unfold execOffer
  split
  · split
    · exact h.next
    · rename_i f _
      obtain ⟨t, e, ht⟩ := (h.beside (s.beside_offerEnds f)).takeOffer f.stream f.frame f.link
      rw [e]
      exact ht.advance
  · exact h.next

theorem execOpenStream_keepsOrder : keepsOrder (execOpenStream s) := by
  unfold execOpenStream
  split
  · split
    · rename_i ref n c ha
      split
      · exact (h.beside (s.beside_answer _ _ _)).next
      · rename_i hc
        split
        · have hs : (s.stream n).state = .closed := by
            by_contra hn
            exact hc (.inl hn)
          exact ((h.openStream hs (h.request _ _ _ ha) ‹_›).beside (State.beside_answer _ _ _ _)).next
        · exact (h.beside (s.beside_answer _ _ _)).next
    · exact h.next
  · exact h.next

theorem execDrainClose_keepsOrder : keepsOrder (execDrainClose s) := by
  unfold execDrainClose
  split
  · split
    · split
      · exact (h.beside (s.beside_answer _ _ _)).next
      · exact (h.beside (s.beside_answer _ _ _)).next
      all_goals exact (h.drainClose (h.isOpen (by simp_all)) _).next
    · exact h.next
  · exact h.next

theorem execImmediateClose_keepsOrder : keepsOrder (execImmediateClose s) := by
  unfold execImmediateClose
  split
  · split
    · rename_i ref n _
      split
      · exact (h.beside (s.beside_answer _ _ _)).next
      · rename_i hs
        split
        · exact (h.beside (s.beside_answer _ _ _)).next
        · rename_i hc
          refine State.Orderly.next (State.Orderly.closeNow (h.beside (s.beside_setActivity _ (by simp))) ?_ _)
          rw [State.stream_setActivity]
          exact ⟨hs, not_not.1 hc⟩
    · exact h.next
  · exact h.next

theorem execAlterStream_keepsOrder : keepsOrder (execAlterStream s) := by
  unfold execAlterStream
  split
  · split
    · split
      · exact (h.beside (s.beside_answer _ _ _)).next
      · exact ((h.alterStream _ _).beside (State.beside_answer _ _ _ _)).next
    · exact h.next
  · exact h.next

omit h in
theorem Stream.isOpen_of_notOpen {st : Stream} (hn : ¬ st.notOpen = true) : st.isOpen := by
  simpa [Stream.notOpen, Stream.isOpen] using hn

theorem execAttachPages_keepsOrder : keepsOrder (execAttachPages s) := by
  unfold execAttachPages
  split
  · split
    · split
      · exact (h.beside (s.beside_answer _ _ _)).next
      · rename_i hn
        refine State.Orderly.next ((h.setSupply (Stream.isOpen_of_notOpen hn) _ (fun hl => ?_)).beside
          (State.beside_answer _ _ _ _))
        rw [List.length_append, List.length_take, Config.supplyRoom]
        omega
    · exact h.next
  · exact h.next

theorem execFlushPage_keepsOrder : keepsOrder (execFlushPage s) := by
  unfold execFlushPage
  split
  · split
    · split
      · exact (h.beside (s.beside_answer _ _ _)).next
      · split
        · exact ((h.beginPageClose _ _ _ _).beside (State.beside_setActivity _ _ (by simp))).next
        · exact (h.beside (s.beside_answer _ _ _)).next
    · exact h.next
  · exact h.next

theorem execRecordOperation_keepsOrder : keepsOrder (execRecordOperation s) := by
  unfold execRecordOperation
  split
  · exact (h.beginRecord (State.serves_of_laneTurn ‹_›)).next
  · exact h.next

theorem execRecordWriteComplete_keepsOrder : keepsOrder (execRecordWriteComplete s) := by
  unfold execRecordWriteComplete
  split
  · rename_i hop
    split
    · refine State.Orderly.advance (State.Orderly.recordWritten (h.beside (s.beside_land _)) ?_)
      rw [(s.beside_land _).laneOp, hop]
      rintro o ⟨⟩
      rfl
    · exact h.next
  · exact h.next

theorem execPageCloseIssue_keepsOrder : keepsOrder (execPageCloseIssue s) := by
  unfold execPageCloseIssue
  split
  · rename_i n hn
    have hs := State.serves_of_laneTurn hn
    obtain ⟨p, hp⟩ := laneWork_close (State.laneWork_of_serves hs)
    have h1 := h.issueClose n
    have free : (s.issueClose n).1.lane.op = none := by
      rw [State.issueClose_lane]
      exact hs.2.1
    have quiet := (State.quiet_of_free free n).1
    have hc := h1.closing n
    refine State.Orderly.next (h1.alike (State.only_beginOp_free _ n _ _ free rfl) rfl ⟨rfl, rfl, rfl, rfl, rfl, rfl⟩ ?_)
    exact {
      closed := fun e => by
        obtain ⟨a1, a2, a3, a4, a5, -⟩ := hc.closed e
        exact ⟨a1, a2, a3, a4, a5, rfl⟩
      draining := hc.draining
      waitLane := fun c e p => .inl ((hc.waitLane c e p).resolve_right (by simp [quiet]))
      later := fun c e p => by
        obtain ⟨a1, a2, -⟩ := hc.later c e p
        exact ⟨a1, a2, rfl⟩
      returns := hc.returns
      giveBack := fun g => nomatch g
      onePage := hc.onePage }
  · exact h.next

theorem execPageCloseComplete_keepsOrder : keepsOrder (execPageCloseComplete s) := by
  unfold execPageCloseComplete
  split
  · rename_i hop
    split
    · exact (State.Orderly.closeFinished (h.beside (s.beside_land _)) hop).advance
    · exact h.next
  · rename_i hop
    split
    · exact (State.Orderly.fullFinished (h.beside (s.beside_land _)) hop).advance
    · exact h.next
  · exact h.next

theorem execReturnIssue_keepsOrder : keepsOrder (execReturnIssue s) := by
  unfold execReturnIssue
  split
  · exact (h.returnIssued (State.serves_of_laneTurn ‹_›) _ _).next
  · exact h.next

theorem execReturnComplete_keepsOrder : keepsOrder (execReturnComplete s) := by
  unfold execReturnComplete
  split
  · rename_i hop
    split
    · exact (State.Orderly.returned (h.beside (s.beside_land _)) hop _).advance
    · exact h.next
  · exact h.next

theorem execTallySnapshot_keepsOrder : keepsOrder (execTallySnapshot s) := by
  unfold execTallySnapshot
  split
  · split
    · exact ((h.snapRecord _ _).beside (State.beside_tally _ _)).next
    · exact h.next
  · exact h.next

/-- A command on a stream always has a next state, and it keeps the laws. -/
theorem exec_keepsOrder (c : Instr) (hc : isStream c = true) : keepsOrder (exec c s) := by
  cases c with
  | headExpiry n => exact execHeadExpiry_keepsOrder h n
  | silenceExpiry n => exact execSilenceExpiry_keepsOrder h n
  | ageExpiry n => exact execAgeExpiry_keepsOrder h n
  | offer => exact execOffer_keepsOrder h
  | openStream => exact execOpenStream_keepsOrder h
  | drainClose => exact execDrainClose_keepsOrder h
  | immediateClose => exact execImmediateClose_keepsOrder h
  | alterStream => exact execAlterStream_keepsOrder h
  | attachPages => exact execAttachPages_keepsOrder h
  | flushPage => exact execFlushPage_keepsOrder h
  | recordOperation => exact execRecordOperation_keepsOrder h
  | recordWriteComplete => exact execRecordWriteComplete_keepsOrder h
  | pageCloseIssue => exact execPageCloseIssue_keepsOrder h
  | pageCloseComplete => exact execPageCloseComplete_keepsOrder h
  | returnIssue => exact execReturnIssue_keepsOrder h
  | returnComplete => exact execReturnComplete_keepsOrder h
  | tallySnapshot => exact execTallySnapshot_keepsOrder h
  | _ => cases hc

/-- From a state that keeps the laws every command has a next state. -/
theorem exec_completes (c : Instr) : ∃ t, exec c s = .next t := by
  by_cases hs : isStream c = true
  · obtain ⟨u, -, e | e⟩ := exec_keepsOrder h c hs <;> exact ⟨_, e⟩
  by_cases hc : isControl c = true
  · cases c with
    | run | nudge | srst | causeClear | enableWrite | rootWrite | registerWriteIgnored | pinReset => exact ⟨_, rfl⟩
    | _ => cases hc
  · obtain ⟨u, -, e | e⟩ := exec_beside c s (by simpa using hc) (by simpa using hs) <;> exact ⟨_, e⟩

end

/-! ### Every step -/

theorem State.Fresh.orderly {s : State} (h : s.Fresh) : s.Orderly where
  stream := fun n => by
    rw [h.stream]
    exact {
      slots := rfl
      sized := fun e => absurd rfl e
      placed := fun _ _ e => nomatch e
      held := fun _ e => nomatch e
      queue := Nat.le_refl 0 }
  closing := fun n => by
    rw [h.stream, h.page]
    obtain ⟨hw, hg⟩ := State.quiet_of_free (s := s) (by rw [h.lane]; rfl) n
    rw [hw]
    exact {
      closed := fun _ => ⟨rfl, rfl, rfl, rfl, rfl, rfl⟩
      draining := fun _ e => nomatch e
      waitLane := fun _ e => nomatch e
      later := fun _ e => nomatch e
      returns := fun _ e => nomatch e
      giveBack := fun g => absurd g hg
      onePage := .inl rfl }
  request := fun _ _ _ e => by
    rw [h.walker] at e
    cases e
  buffers := by
    have none_held : (List.finRange 64).flatMap (fun n => (s.stream n).heldBuffers) = [] :=
      List.flatMap_eq_nil_iff.2 fun n _ => by
        rw [h.stream]
        rfl
    rw [none_held, h.pool, List.append_nil]
    exact .refl _
  reserved := by
    have none_reserved : (List.finRange 64).map (fun n => (s.stream n).reservation)
        = (List.finRange 64).map (fun _ => 0) := List.map_congr_left fun n _ => by
      rw [h.stream]
      rfl
    rw [none_reserved, h.reserved, List.map_const', List.sum_replicate, smul_zero]
  total := by
    rw [h.reserved]
    exact Nat.zero_le _

theorem State.Orderly.enterStarting {s : State} (h : s.Orderly) : s.enterStarting.Orderly := by
  obtain ⟨hs, hp, hb, hl, -, hw⟩ := s.enterStarting_blocks
  have stream (n : StreamId) : s.enterStarting.stream n = s.stream n := by
    unfold State.stream
    rw [hs]
  have page (n : StreamId) : s.enterStarting.page n = s.page n := by
    unfold State.page
    rw [hp]
  exact {
    stream := fun n => stream n ▸ h.stream n
    closing := fun n => by
      unfold State.recordInFlight State.giving
      rw [stream, page, hl]
      exact h.closing n
    request := by
      rw [hw]
      exact h.request
    buffers := by
      simp only [stream, hb]
      exact h.buffers
    reserved := by
      simp only [stream, hb]
      exact h.reserved
    total := hb ▸ h.total }

/-- The laws of windows, closing sequences and buffers are together an invariant of the part. -/
theorem State.kept_orderly : State.Kept State.Orderly where
  beside := fun b h => h.beside b
  fresh := fun h => h.orderly
  starting := fun h => h.enterStarting
  closeNow := fun hs hc h => h.closeNow ⟨hs, hc⟩ _
  command := fun {c s t} hc e h => by
    obtain ⟨u, hu, he⟩ := exec_keepsOrder h c hc
    rw [e] at he
    exact ⟨u, hu, he.imp Host.Outcome.next.inj Host.Outcome.next.inj⟩

theorem State.lawful.step_orderly {s t : State} (h : s.lawful) (e : step s = .next t) : t.Orderly :=
  State.kept_orderly.step s t h.orderly e

/-- A step from a state that keeps the laws has a next state (R18, R19). -/
theorem State.Orderly.step_completes {s : State} (h : s.Orderly) : ∃ t, step s = .next t := by
  unfold step
  split
  · exact ⟨_, rfl⟩
  · exact exec_completes (h.beside (by apply State.Beside.of_eq <;> rfl)) _

/-- Settles O55: a step keeps the windows because it keeps windows, closing sequences and buffers together; two bursts of
one sequence would stand at one offset. -/
theorem stepKeepsWindowLaw : Obligations.StepKeepsWindowLaw := by
  refine ⟨fun s t h e => (h.step_orderly e).windowLaw, fun s n i j b c h hi hj hbc => ?_⟩
  have hp := (h.orderly.stream n).placed i b hi
  have hq := (h.orderly.stream n).placed j c hj
  refine ⟨by rw [← hp, ← hq, hbc], ?_⟩
  rw [← (h.orderly.stream n).slots]
  exact (List.getElem?_eq_some_iff.1 hi).1

/-- Settles O56, with the same invariant as O55. -/
theorem stepKeepsClosingLaw : Obligations.StepKeepsClosingLaw := fun _ _ h e => (h.step_orderly e).closingLaw

/-- Settles O57: the buffers of each stream balance with its reservation, and a claim finds a buffer because its stream
holds less than its reservation. -/
theorem stepKeepsStoreLaw : Obligations.StepKeepsStoreLaw :=
  ⟨fun _ _ h e => (h.step_orderly e).storeLaw, fun _ h => h.orderly.step_completes⟩

end Sys2Proof.Machine
end

section
/-! The closing sequence step by step (O44), CLOSE STREAM (O42, O43) and ALTER STREAM (O45). -/

namespace Sys2Proof.Machine

open Sys2Proof

/-! ### The closing sequence -/

/-- The report of a close, given what becomes of the held drain and of an immediate close that waits (R14, R135). -/
theorem Walker.closeReported_of_not_waiting {w : Walker} {n : StreamId} (h : ∀ ref, w.activity ≠ .waitClose ref n)
    (k : Nat) : w.closeReported n k = w.completeDrain n { code := .ok, value := BitVec.ofNat 32 k } := by
  simp only [Walker.closeReported, w.closeWaiting_none n h]

theorem Walker.closeReported_of_waiting {w : Walker} {n : StreamId} {ref : RecordRef} (h : w.activity = .waitClose ref n)
    (k : Nat) : w.closeReported n k = { w.completeDrain n { code := .overtaken, value := 0 } with
      activity := .finish ref { code := .ok, value := BitVec.ofNat 32 k } } := by
  simp only [Walker.closeReported, w.closeWaiting_some n ref h]

/-- The last page is closing already: it is closed with the sequence's reason (R12, R93). -/
theorem State.closeStep2_of_closing (s : State) (n : StreamId) (r : CloseReason) {c : Closing} {p : ClosingPage}
    (hc : (s.stream n).closing = some c) (hp : (s.page n).closingPage = some p) :
    s.closeStep2 n r = (s.setPage n { s.page n with closingPage := some { p with reason := r } }).setStream n
      { s.stream n with closing := some { c with phase := .waitClose } } := by
  simp only [State.closeStep2, hp, State.modStream, State.modPage, State.stream_setPage, hc, Option.map_some]

/-- The current page becomes the closing page, with the sequence's reason (R12, R93). -/
theorem State.closeStep2_of_current (s : State) (n : StreamId) (r : CloseReason) {c : Closing} {p : Page}
    (hc : (s.stream n).closing = some c) (hn : (s.page n).closingPage = none) (hp : (s.page n).current = some p) :
    s.closeStep2 n r = ((s.setPage n { s.page n with
      current := none
      closingPage := some { page := p, reason := r, flushWaits := false, issued := false } }).cancel n .age).setStream n
        { s.stream n with closing := some { c with phase := .waitClose } } := by
  simp only [State.closeStep2, hn, hp, State.beginPageClose, State.modStream, State.modPage, State.stream_cancel,
    State.stream_setPage, hc, Option.map_some]

/-- With no page left the notes are discarded (R69, R93). -/
theorem State.closeStep2_of_no_page (s : State) (n : StreamId) (r : CloseReason) (hn : (s.page n).closingPage = none)
    (hp : (s.page n).current = none) :
    s.closeStep2 n r = (s.setStream n { s.stream n with notes := .clear }).closeStep3 n := by
  simp only [State.closeStep2, hn, hp, State.modStream]

theorem State.closeStep3_of_supply (s : State) (n : StreamId) {c : Closing} (hc : (s.stream n).closing = some c)
    (hs : (s.page n).supply ≠ []) :
    s.closeStep3 n = s.setStream n { s.stream n with closing := some { c with phase := .returnDue } } := by
  have : ¬ (s.page n).supply.isEmpty = true := by simpa using hs
  simp only [State.closeStep3, if_neg this, State.modStream, hc, Option.map_some]

theorem State.closeStep3_of_no_supply (s : State) (n : StreamId) (hs : (s.page n).supply = []) :
    s.closeStep3 n = s.closeStep4 n 0 := by
  simp only [State.closeStep3, hs, List.isEmpty_nil, if_true]

/-- Settles O44: each step by the case it meets; the report of step 4 by what becomes of the held drain and of an
immediate close. -/
theorem closingSequenceSteps : Obligations.ClosingSequenceSteps := by
  intro s n reason count st pg waits
  refine ⟨fun h => if_pos h, fun h => if_neg (Bool.eq_false_iff.1 h), fun c p => s.closeStep2_of_closing n reason,
    fun c p => s.closeStep2_of_current n reason, s.closeStep2_of_no_page n reason, fun c => s.closeStep3_of_supply n,
    s.closeStep3_of_no_supply n, ?_⟩
  intro v told none_held
  have step4 (w : Walker) (e : s.walker.closeReported n count = w) : s.closeStep4 n count = told w := by
    rw [s.closeStep4_eq, e]
    rfl
  refine ⟨fun hn hw => step4 _ ?_, fun hn ref hw => step4 _ ?_, fun pre h post hh h1 h2 h3 => ⟨fun hw => step4 _ ?_,
    fun ref hw => step4 _ ?_⟩⟩
  · rw [Walker.closeReported_of_not_waiting hw, Walker.completeDrain_none _ n _ hn]
  · rw [Walker.closeReported_of_waiting hw, Walker.completeDrain_none _ n _ hn]
  · rw [Walker.closeReported_of_not_waiting hw, Walker.completeDrain_some _ n _ pre post h hh h1 h2 h3]
  · rw [Walker.closeReported_of_waiting hw, Walker.completeDrain_some _ n _ pre post h hh h1 h2 h3]

/-! ### CLOSE STREAM -/

/-- A walker that requests an immediate close: what IMMEDIATE_CLOSE does, by the stream (R11, R14). -/
theorem exec_immediateClose_of_closed {s : State} {ref : RecordRef} {n : StreamId}
    (h : s.requested ref (.closeStream n false)) (hs : (s.stream n).state = .closed) :
    exec .immediateClose s = .next (s.answered ref .notOpen 0) := by
  obtain ⟨hw, ha⟩ := h
  show execImmediateClose s = _
  simp only [execImmediateClose, hw, ha, hs, if_true]
  rfl

theorem exec_immediateClose_of_closing {s : State} {ref : RecordRef} {n : StreamId}
    (h : s.requested ref (.closeStream n false)) (hs : (s.stream n).state ≠ .closed) (hc : (s.stream n).closing ≠ none) :
    exec .immediateClose s = .next (s.answered ref .busy ((s.stream n).state.code.zeroExtend 32)) := by
  obtain ⟨hw, ha⟩ := h
  show execImmediateClose s = _
  simp only [execImmediateClose, hw, ha, if_true, if_neg hs, if_pos hc]
  rfl

theorem exec_immediateClose_of_open {s : State} {ref : RecordRef} {n : StreamId}
    (h : s.requested ref (.closeStream n false)) (ho : (s.stream n).isOpen) :
    exec .immediateClose s = .next ((s.setActivity (.waitClose ref n)).closeNow n .close) := by
  obtain ⟨hw, ha⟩ := h
  show execImmediateClose s = _
  simp only [execImmediateClose, hw, ha, if_true, if_neg ho.1, if_neg (not_not.2 ho.2)]

/-- Settles O43: both flushes and the cancels together are `State.flushedOut`. -/
theorem immediateCloseFlushes : Obligations.ImmediateCloseFlushes := by
  intro s ref n h hs hc
  rw [exec_immediateClose_of_open h ⟨hs, hc⟩, State.closeNow_eq]
  rfl

/-- A change to another state (R5). -/
theorem State.changeState_of_ne (s : State) (n : StreamId) {target : StreamState}
    (h : (s.stream n).state ≠ target) :
    s.changeState n target = s.stateChanged n { s.stream n with state := target, changed := true } := by
  unfold State.changeState
  rw [if_neg h]
  rfl

@[simp] theorem State.stream_stateChanged_self (s : State) (n : StreamId) (st : Stream) :
    (s.stateChanged n st).stream n = st := State.stream_setStream_self s n st

/-- A drain of a stream with a burst or a record left does not begin the closing sequence (R10). -/
theorem State.testDrained_of_held (s : State) (n : StreamId)
    (h : ¬ (∀ x ∈ (s.stream n).window, x = none) ∨ (s.stream n).queue ≠ []) : s.testDrained n = s := by
  unfold State.testDrained
  dsimp only
  rw [if_neg]
  rintro ⟨-, -, hw, hq, -⟩
  exact h.elim (fun e => e ((windowEmpty_iff _).1 hw)) (fun e => e hq)

theorem exec_drainClose_of_open {s : State} {ref : RecordRef} {n : StreamId} (h : s.requested ref (.closeStream n true))
    (hs : (s.stream n).state ∈ [StreamState.acquiring, .running, .stalled, .cut]) :
    exec .drainClose s = .next (s.drainClose ref n) := by
  obtain ⟨hw, ha⟩ := h
  show execDrainClose s = _
  simp only [execDrainClose, hw, ha, if_true]
  simp only [List.mem_cons, List.not_mem_nil, or_false] at hs
  rcases hs with e | e | e | e <;> rw [e]

/-- The order is held and taken, and SILENCE is cancelled (R9). -/
def State.drainTaken (s : State) (ref : RecordRef) (n : StreamId) : State :=
  (s.setWalker { s.walker with
    held := s.walker.held ++ [{ ref := ref, stream := n, takenWritten := false, settled := false }]
    activity := .taken ref (.drain n) }).cancel n .silence

/-- An accepted drain: HEAD is cancelled on an empty window, and the stream drains (R9). -/
theorem State.drainClose_eq (s : State) (ref : RecordRef) (n : StreamId) (hs : (s.stream n).state ≠ .draining) :
    s.drainClose ref n =
      ((if windowEmpty (s.stream n).window then (s.drainTaken ref n).cancel n .head else s.drainTaken ref n).stateChanged
        n { s.stream n with state := .draining, changed := true }).testDrained n := by
  have e (b : Bool) : (if b then (s.drainTaken ref n).cancel n .head else s.drainTaken ref n).stream n = s.stream n := by
    cases b <;> rfl
  unfold State.drainClose
  dsimp only
  rw [← e (windowEmpty (s.stream n).window)] at hs
  rw [← State.drainTaken, State.changeState_of_ne _ n hs, e]

/-- Settles O42: the answers by the stream's state, and an accepted drain by what its window and queue hold. -/
theorem drainCloseByState : Obligations.DrainCloseByState := by
  intro s ref n st
  refine ⟨fun h => ⟨exec_immediateClose_of_closed h, exec_immediateClose_of_closing h⟩, fun h => ⟨?_, ?_, ?_⟩⟩
  · intro hs
    obtain ⟨hw, ha⟩ := h
    show execDrainClose s = _
    simp only [execDrainClose, hw, ha, if_true, show (s.stream n).state = .closed from hs]
    rfl
  · intro hs
    obtain ⟨hw, ha⟩ := h
    show execDrainClose s = _
    simp only [execDrainClose, hw, ha, if_true, show (s.stream n).state = .draining from hs, State.answerBusy]
    rfl
  · intro hs v empty drained
    have hd : (s.stream n).state ≠ .draining := fun e => by
      have : st.state = .draining := e
      simp [this] at hs
    rw [exec_drainClose_of_open h hs, s.drainClose_eq ref n hd]
    refine ⟨fun he => ?_, fun he hq => ?_, fun he hq hc hl => ?_⟩
    · rw [if_neg (fun e => he ((windowEmpty_iff _).1 e)), State.testDrained_of_held]
      · rfl
      · rw [State.stream_stateChanged_self]
        exact .inl he
    · rw [if_pos ((windowEmpty_iff _).2 he), State.testDrained_of_held]
      · rfl
      · rw [State.stream_stateChanged_self]
        exact .inr hq
    · have free : s.recordInFlight n = false := by
        rw [Bool.eq_false_iff]
        intro hr
        obtain ⟨t, e⟩ := (s.recordInFlight_iff n).1 hr
        exact hl t e
      rw [if_pos ((windowEmpty_iff _).2 he), State.testDrained]
      dsimp only
      rw [if_pos]
      · rfl
      · rw [State.stream_stateChanged_self]
        exact ⟨rfl, hc, (windowEmpty_iff _).2 he, hq, free⟩

/-! ### ALTER STREAM -/

/-- Only the Deadline Queue differs, and there at most one entry. -/
structure State.Rearmed (n : StreamId) (k : DeadlineKind) (s t : State) : Prop where
  frame : t = { s with time := { s.time with deadlines := t.time.deadlines } }
  others : ∀ m j, ¬ (m = n ∧ j = k) → t.deadline m j = s.deadline m j

theorem State.rearmed_refl (s : State) (n : StreamId) (k : DeadlineKind) : State.Rearmed n k s s :=
  ⟨rfl, fun _ _ _ => rfl⟩

theorem State.rearmed_cancel (s : State) (n : StreamId) (k : DeadlineKind) : State.Rearmed n k s (s.cancel n k) :=
  ⟨rfl, fun _ _ h => s.deadline_cancel_ne h⟩

theorem State.rearmed_arm (s : State) (n : StreamId) (k : DeadlineKind) (d : Word) : State.Rearmed n k s (s.arm n k d) :=
  ⟨rfl, fun _ _ h => s.deadline_arm_ne d h⟩

/-- The due tick of a period from a tick on; none for a period of 0. -/
def dueAfter (tick : Word) (v : Half) : Option Word :=
  if v = 0 then none else some (tick + BitVec.ofNat 32 (1000 * v.toNat))

theorem StreamState.silenceRuns_iff (x : StreamState) :
    x.silenceRuns = true ↔ x = .acquiring ∨ x = .running ∨ x = .stalled := by
  cases x <;> simp [StreamState.silenceRuns]

theorem PageState.holdsRecord_iff (pg : PageState) :
    pg.holdsRecord = true ↔ ∃ p, pg.current = some p ∧ 1 ≤ p.count := by
  unfold PageState.holdsRecord
  split
  · rename_i p hp
    simp [hp]
  · rename_i hp
    simp [hp]

/-- A selected period cancels or arms the deadline where it runs (R7). -/
def State.rearmBy (n : StreamId) (k : DeadlineKind) (runs : Bool) (v : Option Half) (s : State) : State :=
  match v with
  | some v => if runs then (if v = 0 then s.cancel n k else s.arm n k (s.time.tick + thousands v)) else s
  | none => s

/-- An alteration of a stream replaces fields, and may re-arm SILENCE, then AGE. -/
theorem State.alterStream_eq (s : State) (n : StreamId) (a : Alteration) :
    s.alterStream n a = ((s.setStream n { s.stream n with config := (s.stream n).config.altered a }).rearmBy n .silence
      (s.stream n).state.silenceRuns a.silence).rearmBy n .age (s.page n).holdsRecord a.ageLimit := by
  have silence (u : State) (v : Half) :
      u.alterSilence n v = u.rearmBy n .silence (u.stream n).state.silenceRuns (some v) := rfl
  have age (u : State) (v : Half) : u.alterAge n v = u.rearmBy n .age (u.page n).holdsRecord (some v) := rfl
  have page (u : State) (runs : Bool) (v : Half) : (u.rearmBy n .silence runs (some v)).page n = u.page n := by
    unfold State.rearmBy
    dsimp only
    split
    · split <;> rfl
    · rfl
  unfold State.alterStream State.modStream
  cases a.silence with
  | none => cases a.ageLimit <;> rfl
  | some v =>
    cases a.ageLimit with
    | none => simp only [silence, State.stream_setStream_self, State.rearmBy]
    | some w => simp only [age, silence, page, State.stream_setStream_self, State.page_setStream]

/-- A selected period where it runs: no other deadline changes. -/
theorem State.rearmed_rearmBy (s : State) (n : StreamId) (k : DeadlineKind) (runs : Bool) (v : Option Half) :
    State.Rearmed n k s (s.rearmBy n k runs v) := by
  unfold State.rearmBy
  split
  · split
    · split
      · exact s.rearmed_cancel n k
      · exact s.rearmed_arm n k _
    · exact s.rearmed_refl n k
  · exact s.rearmed_refl n k

theorem State.deadline_rearmBy_self (s : State) (n : StreamId) (k : DeadlineKind) (v : Half) :
    (s.rearmBy n k true (some v)).deadline n k = dueAfter s.time.tick v := by
  show (if v = 0 then s.cancel n k else s.arm n k (s.time.tick + thousands v)).deadline n k = _
  unfold dueAfter
  split
  · exact s.deadline_cancel_self n k
  · exact s.deadline_arm_self n k _

theorem State.rearmBy_of_not (s : State) (n : StreamId) (k : DeadlineKind) {runs : Bool} {v : Option Half}
    (h : v = none ∨ ¬ runs = true) : s.rearmBy n k runs v = s := by
  unfold State.rearmBy
  split
  · rw [if_neg (h.resolve_left (by simp))]
  · rfl

theorem Stream.notOpen_iff (st : Stream) : st.notOpen = true ↔ st.state = .closed ∨ st.closing ≠ none := by
  simp [Stream.notOpen, Option.isSome_iff_ne_none]

/-- Settles O45: the two deadlines are altered one after the other, and neither reads the other. -/
theorem alterStreamEffect : Obligations.AlterStreamEffect := by
  intro s ref n a ⟨hw, ha⟩ st measured aged due
  constructor
  · intro h
    show execAlterStream s = _
    simp only [execAlterStream, hw, ha, if_true, if_pos ((s.stream n).notOpen_iff.2 h)]
    rfl
  · intro hs hc
    have hn : ¬ (s.stream n).notOpen = true := fun e =>
      ((s.stream n).notOpen_iff.1 e).elim hs (fun e => e hc)
    obtain ⟨u, hu⟩ : ∃ u, u = s.setStream n { s.stream n with config := (s.stream n).config.altered a } := ⟨_, rfl⟩
    obtain ⟨v, hv⟩ : ∃ v, v = u.rearmBy n .silence (s.stream n).state.silenceRuns a.silence := ⟨_, rfl⟩
    obtain ⟨w, hw'⟩ : ∃ w, w = v.rearmBy n .age (s.page n).holdsRecord a.ageLimit := ⟨_, rfl⟩
    have hv' : State.Rearmed n .silence u v := hv ▸ u.rearmed_rearmBy n _ _ _
    have hr : State.Rearmed n .age v w := hw' ▸ v.rearmed_rearmBy n _ _ _
    have tick : v.time.tick = s.time.tick := (congrArg (fun x => x.time.tick) hv'.frame).trans (by rw [hu]; rfl)
    have before (m : StreamId) (k : DeadlineKind) : u.deadline m k = s.deadline m k := by rw [hu]; rfl
    have silence : w.deadline n .silence = v.deadline n .silence := hr.others _ _ (by simp)
    have age : v.deadline n .age = s.deadline n .age := (hv'.others _ _ (by simp)).trans (before _ _)
    refine ⟨w.answer ref .ok 0, ?_, ?_, ?_, ?_, ?_, ?_, ?_⟩
    · show execAlterStream s = _
      simp only [execAlterStream, hw, ha, if_true, if_neg hn, s.alterStream_eq, hw', hv, hu]
    · have frame := hr.frame.trans (congrArg (fun x : State =>
        { x with time := { x.time with deadlines := w.time.deadlines } }) hv'.frame)
      rw [hu] at frame
      exact congrArg (fun x : State => x.answered ref .ok 0) frame
    · intro x hx hm
      refine silence.trans ?_
      rw [hv, (s.stream n).state.silenceRuns_iff.2 hm, hx, u.deadline_rearmBy_self, hu]
      rfl
    · intro h
      refine silence.trans ?_
      rw [hv, u.rearmBy_of_not n _ (h.imp_right (fun e r => e ((s.stream n).state.silenceRuns_iff.1 r)))]
      exact before _ _
    · intro x hx hm
      show w.deadline n .age = _
      rw [hw', (s.page n).holdsRecord_iff.2 hm, hx, v.deadline_rearmBy_self, tick]
      rfl
    · intro h
      show w.deadline n .age = _
      rw [hw', v.rearmBy_of_not n _ (h.imp_right (fun e r => e ((s.page n).holdsRecord_iff.1 r)))]
      exact age
    · intro m k h
      show w.deadline m k = _
      rw [hr.others m k (fun e => h ⟨e.1, .inr e.2⟩), hv'.others m k (fun e => h ⟨e.1, .inl e.2⟩)]
      exact before _ _

end Sys2Proof.Machine
end

section
/-! Offers: without anchoring (O30) and with it (O31). -/

namespace Sys2Proof.Machine

open Sys2Proof

/-! ### The offer -/

theorem State.stream_offerEnds (s : State) (h : HeldFrame) (n : StreamId) : (s.offerEnds h).stream n = s.stream n := by
  unfold State.offerEnds
  cases h.link <;> rfl

theorem State.store_offerEnds (s : State) (h : HeldFrame) : (s.offerEnds h).store = s.store := by
  unfold State.offerEnds
  cases h.link <;> rfl

theorem State.time_offerEnds (s : State) (h : HeldFrame) : (s.offerEnds h).time = s.time := by
  unfold State.offerEnds
  cases h.link <;> rfl

/-- An offer ends, the stream takes it, and the stop sequence may go on (R119). -/
theorem exec_offer {s t : State} {h : HeldFrame} (ho : s.offers h)
    (e : (s.offerEnds h).takeOffer h.stream h.frame h.link = some t) : exec .offer s = .next t.advanceStop := by
  obtain ⟨hw, hh⟩ := ho
  have ends : ({ s with acceptance := { s.acceptance with held := none } } : State).releaseStaging h.link h.index
      = s.offerEnds h := by
    unfold State.offerEnds State.releaseStaging
    cases h.link <;> rfl
  show execOffer s = _
  simp only [execOffer, hw, if_true, hh, ends, e]

theorem State.takeOffer_of_refusing (s : State) (n : StreamId) (f : Frame) (l : LinkId)
    (hs : (s.stream n).state = .closed ∨ (s.stream n).state = .draining) : s.takeOffer n f l = some s.refuseOffer := by
  unfold State.takeOffer
  rcases hs with e | e <;> rw [e]

/-- A stream that waits for a burst to anchor on. -/
def StreamState.waiting (x : StreamState) : Prop := x = .acquiring ∨ x = .stalled ∨ x = .cut

theorem State.takeOffer_of_waiting (s : State) (n : StreamId) (f : Frame) (l : LinkId)
    (hs : (s.stream n).state.waiting) : s.takeOffer n f l = s.offerToWaiting n f l := by
  unfold State.takeOffer
  rcases hs with e | e | e <;> rw [e]

theorem State.takeOffer_of_running (s : State) (n : StreamId) (f : Frame) (l : LinkId)
    (hs : (s.stream n).state = .running) : s.takeOffer n f l = s.offerToRunning n f l := by
  unfold State.takeOffer
  rw [hs]

/-- A RUNNING stream counts a burst whose slot is full (R31). -/
theorem State.offerToRunning_of_full (s : State) (n : StreamId) (f : Frame) (l : LinkId) {x : Burst}
    (ho : (s.stream n).offset f.sequence < (s.stream n).config.w)
    (hx : (s.stream n).window[(s.stream n).offset f.sequence]? = some (some x)) :
    s.offerToRunning n f l = some (s.modStream n (Stream.tally (fun c => { c with duplicate := c.duplicate + 1 }))) := by
  unfold State.offerToRunning
  dsimp only
  rw [if_pos ho, List.getD_eq_getElem?_getD, hx]
  rfl

/-- A RUNNING stream stores a burst whose slot is empty (R31). -/
theorem State.offerToRunning_of_empty (s : State) (n : StreamId) (f : Frame) (l : LinkId)
    (ho : (s.stream n).offset f.sequence < (s.stream n).config.w)
    (hx : (s.stream n).window[(s.stream n).offset f.sequence]? = some none) :
    s.offerToRunning n f l = s.storeBurst n ((s.stream n).offset f.sequence) f l := by
  unfold State.offerToRunning
  dsimp only
  rw [if_pos ho, List.getD_eq_getElem?_getD, hx]
  rfl

/-- A RUNNING stream counts a burst from the half of the sequences behind its window (R32). -/
theorem State.offerToRunning_of_late (s : State) (n : StreamId) (f : Frame) (l : LinkId)
    (ho : (s.stream n).config.w ≤ (s.stream n).offset f.sequence) (hx : 32768 ≤ (s.stream n).offset f.sequence) :
    s.offerToRunning n f l = some (s.modStream n (Stream.tally (fun c => { c with late := c.late + 1 }))) := by
  unfold State.offerToRunning
  dsimp only
  rw [if_neg (Nat.not_lt.2 ho), if_neg (Nat.not_lt.2 hx)]

/-- A waiting stream under MARK SYNC counts an unmarked burst (R26). -/
theorem State.offerToWaiting_of_unmarked (s : State) (n : StreamId) (f : Frame) (l : LinkId)
    (hm : (s.stream n).config.options.markSync = true) (hf : f.mark = false) :
    s.offerToWaiting n f l = some (s.modStream n (Stream.tally (fun c => { c with unsynced := c.unsynced + 1 }))) := by
  unfold State.offerToWaiting
  rw [if_pos (by rw [hm, hf]; rfl)]

/-- A waiting stream anchors on a burst, under MARK SYNC on a marked one (R26). -/
theorem State.offerToWaiting_of_marked (s : State) (n : StreamId) (f : Frame) (l : LinkId)
    (hm : (s.stream n).config.options.markSync = true → f.mark = true) :
    s.offerToWaiting n f l = s.anchor n f l := by
  unfold State.offerToWaiting
  rw [if_neg]
  intro e
  obtain ⟨h1, h2⟩ := Bool.and_eq_true_iff.1 e
  rw [hm h1] at h2
  cases h2

/-- Settles O30: the stream's state and the burst's offset decide. -/
theorem offerWithoutAnchoring : Obligations.OfferWithoutAnchoring := by
  constructor
  · intro s h ho st u
    have stream : (s.offerEnds h).stream h.stream = st := s.stream_offerEnds h _
    refine ⟨fun hs => ?_, fun hs hm hf => ?_⟩
    · exact exec_offer ho (State.takeOffer_of_refusing _ _ _ _ (stream ▸ hs))
    · have e : (s.offerEnds h).takeOffer h.stream h.frame h.link = some (u.modStream h.stream _) :=
        (State.takeOffer_of_waiting _ _ _ _ (stream ▸ hs)).trans
          (State.offerToWaiting_of_unmarked _ _ _ _ (stream ▸ hm) hf)
      rw [exec_offer ho e, State.modStream, stream]
      rfl
  · intro s h ho n st o hs
    have stream : (s.offerEnds h).stream n = st := s.stream_offerEnds h _
    have run : (s.offerEnds h).takeOffer n h.frame h.link = (s.offerEnds h).offerToRunning n h.frame h.link :=
      State.takeOffer_of_running _ _ _ _ (stream ▸ hs)
    have counted (f : StreamCounters → StreamCounters)
        (e : (s.offerEnds h).offerToRunning n h.frame h.link = some ((s.offerEnds h).modStream n (Stream.tally f))) :
        exec .offer s = .next ((s.offerEnds h).setStream n
          { st with counters := f st.counters, changed := true }).advanceStop := by
      rw [exec_offer ho (run.trans e), State.modStream, stream]
      rfl
    have offset : ((s.offerEnds h).stream n).offset h.frame.sequence = o := by
      rw [stream]
      rfl
    refine ⟨?_, ?_, ?_⟩
    · intro x hlt hx
      refine counted (fun c => { c with duplicate := c.duplicate + 1 })
        (State.offerToRunning_of_full _ _ _ _ (x := x) ?_ ?_)
      · rw [offset, stream]
        exact hlt
      · rw [offset, stream]
        exact hx
    · intro b pool hlt hx hp m
      have empty := State.offerToRunning_of_empty (s.offerEnds h) n h.frame h.link (by rw [offset, stream]; exact hlt)
        (by rw [offset, stream]; exact hx)
      have pool' : (s.offerEnds h).store.pool = b :: pool := by
        rw [s.store_offerEnds]
        exact hp
      rw [exec_offer ho (run.trans (empty.trans (State.storeBurst_eq _ n _ h.frame h.link pool'))),
        Stream.noteMargin_eq, offset, stream, s.time_offerEnds]
      rfl
    · intro hge hl
      refine counted (fun c => { c with late := c.late + 1 }) (State.offerToRunning_of_late _ _ _ _ ?_ ?_)
      · rw [offset, stream]
        exact hge
      · rw [offset]
        exact hl

/-- Settles O31. -/
theorem offerAnchors : Obligations.OfferAnchors := by
  intro s h b pool ho hp n st d hs hm
  have stream : (s.offerEnds h).stream n = st := s.stream_offerEnds h _
  have idle : st.state ≠ .running := by rcases hs with e | e | e <;> simp [e]
  have e := (State.takeOffer_of_waiting (s.offerEnds h) n h.frame h.link (stream ▸ hs)).trans
    ((State.offerToWaiting_of_marked _ _ _ _ (stream ▸ hm)).trans
      (State.anchor_eq _ n h.frame h.link ((s.store_offerEnds h).symm ▸ hp) (stream ▸ idle)))
  rw [exec_offer ho e, stream, s.time_offerEnds]
  rfl

end Sys2Proof.Machine
end

section
/-! HEAD expiries that release a record to a full queue (O22). -/

namespace Sys2Proof.Machine

open Sys2Proof

/-- A HEAD expiry that is due is taken, its entry gone (R55). -/
theorem exec_headExpiry {s t : State} {n : StreamId} {due : Word} (h : s.expiryDue n .head due)
    (e : (s.cancel n .head).headExpiry n due = some t) : exec (.headExpiry n) s = .next t := by
  show execHeadExpiry n s = _
  simp only [execHeadExpiry, State.expired_of_due h, e]

theorem State.freeBuffers_setStream (s : State) (n : StreamId) (st : Stream) (bs : List BufferId) :
    (s.setStream n st).freeBuffers bs = (s.freeBuffers bs).setStream n st := rfl

/-- A record that meets a full queue is dropped, and the head advances as without the drop (R61, R64). -/
theorem State.release_of_full (s : State) (n : StreamId) (r : QueueRecord) (due : Word)
    (h : (s.stream n).config.q ≤ (s.stream n).queue.length) :
    (s.offerRecord n r).modStream n (Stream.advance due 1)
      = (s.freeBuffers r.content.buffers).setStream n ((s.stream n).starve.advance due 1) := by
  rw [s.offerRecord_of_full n r h, State.modStream, State.stream_freeBuffers, State.stream_setStream_self,
    State.freeBuffers_setStream, State.setStream_setStream]

/-- The head of a stream that runs, or still holds a burst, is armed anew (R61, R66). -/
theorem State.rearmHead_of_held (s : State) (n : StreamId)
    (h : (s.stream n).state = .running ∨ ∃ x, some x ∈ (s.stream n).window) :
    s.rearmHead n = s.arm n .head (s.stream n).headDeadline := by
  unfold State.rearmHead
  rw [if_neg]
  rintro ⟨hd, hw⟩
  rcases h with hr | ⟨x, hx⟩
  · rw [hr] at hd
    cases hd
  · exact absurd ((windowEmpty_iff _).1 hw _ hx) (by simp)

/-- A drained stream with a record left in its queue does not begin to close (R10, R66). -/
theorem State.rearmHead_of_queued (s : State) (n : StreamId) (hd : (s.stream n).state = .draining)
    (hw : ∀ x ∈ (s.stream n).window, x = none) (hq : (s.stream n).queue ≠ []) : s.rearmHead n = s := by
  unfold State.rearmHead
  rw [if_pos ⟨hd, (windowEmpty_iff _).2 hw⟩]
  exact s.testDrained_of_held n (.inr hq)

/-- A stream that dropped the record of the burst in its slot 0 (R57, R58, R64). -/
def Stream.dataStarved (st : Stream) (samples : List Half) (due : Word) : Stream :=
  Stream.advance due 1 (Stream.starve { st with
    repeatStore := samples, fillsInRow := 0, changed := true
    counters := { st.counters with releasedData := st.counters.releasedData + 1 } })

theorem State.releaseData_of_full (s : State) (n : StreamId) (due : Word) (b : Burst)
    (h : (s.stream n).config.q ≤ (s.stream n).queue.length) :
    s.releaseData n due b = ((s.freeBuffers [b.buffer]).setStream n
      ((s.stream n).dataStarved s.store.buffers[b.buffer] due)).rearmHead n := by
  unfold State.releaseData
  dsimp only
  rw [State.release_of_full]
  · rw [State.stream_modStream_self, State.modStream, State.freeBuffers_setStream, State.setStream_setStream]
    rfl
  · rw [State.stream_modStream_self]
    exact h

/-- A stream that dropped a FILL record (R59, R64). -/
def Stream.fillStarved (st : Stream) (due : Word) : Stream :=
  Stream.advance due 1 (Stream.starve { st with
    fillsInRow := st.fillsInRow + 1, changed := true
    counters := { st.counters with fillRecords := st.counters.fillRecords + 1 } })

theorem State.releaseFill_of_full (s u : State) (n : StreamId) (due : Word) {r : QueueRecord}
    (hm : s.makeFill n due = some (r, u)) (hs : u.stream n = s.stream n) (hr : (s.stream n).state = .running)
    (h : (s.stream n).config.q ≤ (s.stream n).queue.length) :
    s.releaseFill n due = some (((u.freeBuffers r.content.buffers).setStream n
      ((s.stream n).fillStarved due)).arm n .head ((s.stream n).fillStarved due).headDeadline) := by
  have step : (((u.modStream n (fun st => ({ st with fillsInRow := st.fillsInRow + 1 } : Stream).tally
      (fun c => { c with fillRecords := c.fillRecords + 1 }))).offerRecord n r).modStream n (Stream.advance due 1))
      = (u.freeBuffers r.content.buffers).setStream n ((s.stream n).fillStarved due) := by
    rw [State.release_of_full]
    · rw [State.stream_modStream_self, hs, State.modStream, State.freeBuffers_setStream, State.setStream_setStream]
      rfl
    · rw [State.stream_modStream_self, hs]
      exact h
  unfold State.releaseFill
  rw [hm]
  dsimp only
  rw [step, State.rearmHead_of_held, State.stream_setStream_self]
  rw [State.stream_setStream_self]
  exact .inl hr

/-- A fill that claims no buffer changes no state (R60). -/
theorem State.makeFill_of_no_claim (s : State) (n : StreamId) (due : Word)
    (h : (s.stream n).config.fillPolicy ≠ .repeatStore ∨ (s.stream n).repeatStore = []) :
    ∃ r, s.makeFill n due = some (r, s) ∧ r.content.buffers = [] := by
  cases hf : (s.stream n).config.fillPolicy with
  | constant => exact ⟨_, by simp only [State.makeFill, hf]; rfl, rfl⟩
  | markOnly => exact ⟨_, by simp only [State.makeFill, hf]; rfl, rfl⟩
  | repeatStore =>
    have he : (s.stream n).repeatStore.isEmpty = true := List.isEmpty_iff.2 (h.resolve_left (fun e => e hf))
    exact ⟨_, by simp only [State.makeFill, hf, if_pos he]; rfl, rfl⟩

/-- A REPEAT fill from a filled store claims a buffer and copies the store into it (R60). -/
theorem State.makeFill_of_claim (s : State) (n : StreamId) (due : Word) {b : BufferId} {pool : List BufferId}
    (hf : (s.stream n).config.fillPolicy = .repeatStore) (he : (s.stream n).repeatStore ≠ [])
    (hp : s.store.pool = b :: pool) :
    s.makeFill n due = some (fillRecord (s.stream n).head due (s.stream n).repeatStore.length (.buffer b) true,
      s.filled b pool (s.stream n).repeatStore) := by
  have ne : ¬ (s.stream n).repeatStore.isEmpty = true := by simpa using he
  simp only [State.makeFill, hf, if_neg ne, State.claim_eq, hp]

/-- A buffer claimed, filled and given back leaves its content behind (R16, R64). -/
theorem State.freeBuffers_filled (s : State) (samples : List Half) {b : BufferId} {pool : List BufferId}
    (hp : s.store.pool = b :: pool) : (s.filled b pool samples).freeBuffers [b]
      = { s with store := { s.store with buffers := s.store.buffers.set b.val samples b.isLt } } :=
  congrArg (fun p => { s with store :=
    { s.store with buffers := s.store.buffers.set b.val samples b.isLt, pool := p } }) hp.symm

/-- The head deadline after an advance by one (R61). -/
theorem advance_one_deadline (due p : Word) : due + BitVec.ofNat 32 1 * p = due + p := by
  rw [show BitVec.ofNat 32 1 * p = p from one_mul p]

/-- Settles O22: the drop of a record frees its buffer, and the release goes on. -/
theorem headExpiryStarves : Obligations.HeadExpiryStarves := by
  intro s n due hdue hs hq st starvedNotes
  have notes : satAdd st.notes.starved 1 = starvedNotes.starved := satAdd_eq _ _
  constructor
  · intro b rest hw u
    have first : slot0 (s.stream n).window = some b := by
      rw [show (s.stream n).window = some b :: rest from hw]
      rfl
    have release : exec (.headExpiry n) s = .next (u.rearmHead n) := by
      refine exec_headExpiry hdue ?_
      have taken : (s.cancel n .head).headExpiry n due = some ((s.cancel n .head).releaseData n due b) := by
        unfold State.headExpiry
        rcases hs with e | e <;> simp only [State.stream_cancel, e, first]
      have after : st.dataStarved s.store.buffers[b.buffer] due = u.stream n := by
        simp only [u, State.stream_setStream_self, Stream.dataStarved, Stream.starve, Stream.advance, notes, hw,
          advance_one_deadline]
        rfl
      rw [taken, State.releaseData_of_full (s.cancel n .head) n due b hq, State.stream_cancel]
      show some ((((s.cancel n .head).freeBuffers [b.buffer]).setStream n
        (st.dataStarved s.store.buffers[b.buffer] due)).rearmHead n) = _
      rw [after, State.stream_setStream_self]
      rfl
    have window : (u.stream n).window = rest ++ [none] := by rw [State.stream_setStream_self]
    have state : (u.stream n).state = st.state := by rw [State.stream_setStream_self]
    refine ⟨fun h => ?_, fun hd hn h1 => ?_⟩
    · rw [release, State.rearmHead_of_held, State.stream_setStream_self]
      rw [window, state]
      exact h.imp_right (fun ⟨x, hx⟩ => ⟨x, List.mem_append_left _ hx⟩)
    · rw [release, State.rearmHead_of_queued _ n (state.trans hd)]
      · rw [window]
        intro x hx
        cases x with
        | none => rfl
        | some y => exact absurd (by simpa using hx) (hn y)
      · rw [State.stream_setStream_self]
        exact List.ne_nil_of_length_pos (Nat.lt_of_lt_of_le h1 hq)
  · intro rest hr hw hf dropped
    have fill (u v : State) (r : QueueRecord) (hm : (s.cancel n .head).makeFill n due = some (r, u))
        (hu : u.stream n = st) (hv : u.freeBuffers r.content.buffers = v.cancel n .head) :
        exec (.headExpiry n) s = .next (dropped v) := by
      refine exec_headExpiry hdue ?_
      have first : slot0 (s.stream n).window = none := by
        rw [show (s.stream n).window = none :: rest from hw]
        rfl
      have taken : (s.cancel n .head).headExpiry n due = (s.cancel n .head).releaseFill n due := by
        unfold State.headExpiry
        simp only [State.stream_cancel, show (s.stream n).state = .running from hr, first]
        exact if_pos hf
      have after : st.fillStarved due = { st with
          head := st.head + 1, headDeadline := due + st.config.p, window := rest ++ [none], notes := starvedNotes,
          fillsInRow := st.fillsInRow + 1,
          counters := { st.counters with
            fillRecords := st.counters.fillRecords + 1, starved := st.counters.starved + 1 }
          changed := true } := by
        simp only [Stream.fillStarved, Stream.starve, Stream.advance, notes, hw, advance_one_deadline]
        rfl
      rw [taken, State.releaseFill_of_full _ u n due hm hu hr hq, hv, State.stream_cancel]
      show some (((v.cancel n .head).setStream n (st.fillStarved due)).arm n .head (st.fillStarved due).headDeadline) = _
      rw [after]
    refine ⟨fun h => ?_, fun b pool hp he hpool => ?_⟩
    · obtain ⟨r, hm, hbuf⟩ := (s.cancel n .head).makeFill_of_no_claim n due h
      exact fill _ s r hm rfl (by rw [hbuf]; rfl)
    · refine fill _ _ _ ((s.cancel n .head).makeFill_of_claim n due hp he hpool) rfl ?_
      exact (s.cancel n .head).freeBuffers_filled st.repeatStore hpool

end Sys2Proof.Machine
end

section
/-! The formats the part writes (O53). -/

namespace Sys2Proof.Machine

open Sys2Proof

@[simp] theorem length_le16 (v : Half) : (le16 v).length = 2 := rfl

@[simp] theorem length_le32 (v : Word) : (le32 v).length = 4 := rfl

/-- The samples of a record take two bytes each (R79). -/
theorem length_flatMap_le16 (l : List Half) : (l.flatMap le16).length = 2 * l.length := by
  induction l with
  | nil => rfl
  | cons v l ih =>
    rw [List.flatMap_cons, List.length_append, ih, length_le16, List.length_cons]
    omega

/-- A record has as many samples as it counts, when its buffer does and it counts none without one (R56). -/
theorem QueueRecord.length_samples (buffers : Vector (List Half) 512) (r : QueueRecord)
    (hb : ∀ b, r.content = .buffer b → buffers[b].length = r.count) (he : r.content = .empty → r.count = 0) :
    (r.samples buffers).length = r.count := by
  unfold QueueRecord.samples
  split
  · exact hb _ ‹_›
  · exact List.length_replicate
  · exact (he ‹_›).symm

theorem QueueRecord.length_header (r : QueueRecord) : r.header.length = 20 := rfl

/-- A record is padded to a multiple of four bytes (R79). -/
theorem QueueRecord.length_bytes (buffers : Vector (List Half) 512) (r : QueueRecord)
    (hb : ∀ b, r.content = .buffer b → buffers[b].length = r.count) (he : r.content = .empty → r.count = 0) :
    (r.bytes buffers).length = recordSize r.count := by
  rw [QueueRecord.bytes, List.length_append, List.length_append, r.length_header, length_flatMap_le16,
    r.length_samples buffers hb he]
  unfold recordSize
  split
  · rw [length_le16]
    omega
  · rw [List.length_nil]
    omega

theorem QueueRecord.link_code (l : Option LinkId) : (match l with | some l => linkCode l | none => 0xFF#8)
    = if l = some .a then 0 else if l = some .b then 1 else 0xFF#8 := by
  rcases l with _ | (_ | _) <;> rfl

theorem RecordKind.code_eq (k : RecordKind) : k.code = if k = .data then 1 else 2 := by
  cases k <;> rfl

theorem linkCode_eq (l : LinkId) : linkCode l = if l = .a then 0 else 1 := by
  cases l <;> rfl

/-- The flags byte of a record (R79). -/
def QueueRecord.flags (r : QueueRecord) : Byte :=
  boolBit r.mark 0 ||| boolBit r.test 1 ||| boolBit r.repeated 2 ||| r.notes.flags

/-- Six flags at the bits 0 to 5 of a byte. -/
theorem flag_bits : ∀ a b c d e f : Bool, (List.range 8).map
    (boolBit a 0 ||| boolBit b 1 ||| boolBit c 2 ||| (boolBit d 3 ||| boolBit e 4 ||| boolBit f 5)).getLsbD
      = [a, b, c, d, e, f, false, false] := by decide

theorem QueueRecord.bits_flags (r : QueueRecord) : (List.range 8).map r.flags.getLsbD =
    [r.mark, r.test, r.repeated, r.notes.resync, r.notes.stall, r.notes.cut, false, false] := flag_bits _ _ _ _ _ _

theorem Notes.bits_flags (n : Notes) : (List.range 8).map n.flags.getLsbD =
    [false, false, false, n.resync, n.stall, n.cut, false, false] := by
  have := flag_bits false false false n.resync n.stall n.cut
  rwa [show boolBit false 0 ||| boolBit false 1 ||| boolBit false 2 = 0#8 from rfl, BitVec.zero_or] at this

/-- The fields of a record at their places (R79). -/
theorem QueueRecord.bytes_eq (buffers : Vector (List Half) 512) (r : QueueRecord) : r.bytes buffers =
    [if r.kind = .data then 1 else 2, r.flags, BitVec.ofNat 8 r.count,
      if r.link = some .a then 0 else if r.link = some .b then 1 else 0xFF#8]
    ++ le16 r.sequence ++ le16 r.notes.skipped ++ le16 r.notes.starved ++ [0, 0]
    ++ le32 r.releaseTick ++ le32 r.originTime ++ (r.samples buffers).flatMap le16
    ++ (if r.count % 2 = 1 then [0, 0] else []) := by
  rw [← RecordKind.code_eq, ← QueueRecord.link_code]
  rfl

/-- The fields of a stray entry at their places (R120). -/
theorem Stray.bytes_eq (e : Stray) : e.bytes =
    le16 e.tag ++ le16 e.sequence ++ [BitVec.ofNat 8 e.length, if e.link = .a then 0 else 1, 0, 0]
      ++ le32 e.arrival ++ [0, 0, 0, 0] := by
  rw [← linkCode_eq]
  rfl

/-- A stream's tally record is its state, its supply count, its head and fourteen words (R159). -/
theorem streamTallyBody_eq (st : Stream) (k : Nat) : streamTallyBody st k =
    [st.state.code, BitVec.ofNat 8 k] ++ le16 st.head
      ++ [st.counters.releasedData, st.counters.fillRecords, st.counters.skippedSequences, st.counters.late,
          st.counters.duplicate, st.counters.early, st.counters.unsynced, st.counters.resyncs, st.counters.stalls,
          st.counters.cuts, st.counters.starved, st.counters.flushed, st.counters.pagesClosed,
          st.minMargin].flatMap le32 := by
  simp only [streamTallyBody, List.flatMap_cons, List.flatMap_nil, List.append_assoc, List.append_nil]

/-- The device record is two link states, nine words and ten halves (R160). -/
theorem deviceTallyBody_eq (a b : Receiver) (c : AcceptanceCounters) (w : Walker) : deviceTallyBody a b c w =
    [a.state.code, b.state.code, 0, 0]
      ++ [a.counters.good, b.counters.good, c.filteredA, c.filteredB, c.strays, c.closedStream, c.wrongLink,
          w.ordersDone, w.ordersRefused].flatMap le32
      ++ [a.counters.checkErrors, b.counters.checkErrors, a.counters.formatErrors, b.counters.formatErrors,
          a.counters.overruns, b.counters.overruns, a.counters.linkOffDrops, b.counters.linkOffDrops,
          c.strayOverflows, c.testDiscards].flatMap (fun v => le16 (v.extractLsb' 0 16)) := by
  have states : [a.state.code, b.state.code] ++ le16 0 = [a.state.code, b.state.code, 0, 0] := rfl
  simp only [deviceTallyBody, deviceTallyWords, deviceTallyHalves, low16, states, List.flatMap_cons, List.flatMap_nil,
    List.append_assoc, List.append_nil]

theorem length_streamTallyBody (st : Stream) (k : Nat) : (streamTallyBody st k).length = 60 := by
  simp [streamTallyBody]

theorem length_deviceTallyBody (a b : Receiver) (c : AcceptanceCounters) (w : Walker) :
    (deviceTallyBody a b c w).length = 60 := by
  simp [deviceTallyBody, deviceTallyWords, deviceTallyHalves, low16]

/-- A data bit that differs from the register's top bit feeds the generator in (R181). -/
theorem crcBit_of_ne {reg : Word} {bit : Bool} (h : reg.getLsbD 31 ≠ bit) :
    crcBit reg bit = (reg <<< 1) ^^^ 0x04C11DB7#32 := if_pos (by simpa using h)

theorem crcBit_of_eq {reg : Word} {bit : Bool} (h : reg.getLsbD 31 = bit) : crcBit reg bit = reg <<< 1 :=
  if_neg (by rw [h, bne_self_eq_false]; exact Bool.false_ne_true)

theorem crcRegister_append (bytes : List Byte) (v : Byte) :
    crcRegister (bytes ++ [v]) = crcByte (crcRegister bytes) v := List.foldl_append

/-- Settles O53: the fields of each format stand as listed; only the codes of link and kind and the flags take a case
distinction. -/
theorem formatSizes : Obligations.FormatSizes := by
  refine ⟨fun n => ?_, rfl, fun _ => rfl, fun _ => rfl, fun buffers r hb he => ?_, fun n reason serial p tick notes => ?_,
    fun e => ⟨rfl, e.bytes_eq⟩, fun st k => ⟨length_streamTallyBody st k, streamTallyBody_eq st k⟩,
    fun a b c w => ⟨length_deviceTallyBody a b c w, deviceTallyBody_eq a b c w⟩, ⟨rfl, rfl, rfl, rfl, rfl⟩,
    fun reg bit => ⟨crcBit_of_ne, crcBit_of_eq⟩, fun _ _ => rfl, crcRegister_append, rfl, fun _ => rfl⟩
  · unfold recordSize
    omega
  · refine ⟨r.length_bytes buffers hb he, fun b e => ?_, fun v e => ?_, fun e => ?_, r.flags, r.bytes_eq buffers,
      r.bits_flags⟩
    all_goals
      unfold QueueRecord.samples
      rw [e]
  · exact ⟨rfl, notes.flags, rfl, notes.bits_flags⟩

end Sys2Proof.Machine
end

section
/-! The machine right after reset (O3). -/

namespace Sys2Proof.Machine

open Sys2Proof

theorem State.fresh_reset : State.reset.Fresh where
  streams := rfl
  pages := rfl
  pool := by simp only [State.reset, BurstStore.reset]
  reserved := rfl
  lane := rfl
  acceptance := rfl
  walker := rfl

/-- The reset state has its blocks at their reset values (R173). -/
theorem State.resetBlocks_reset : State.reset.resetBlocks = State.reset := by
  simp only [State.resetBlocks, State.reset, BurstStore.reset]

/-- A register at 0 reads 0 at every size. -/
theorem State.readWindow_of_zero {s : State} {offset : BitVec 5} (h : s.readRegister offset = 0) (size : AccessSize) :
    s.readWindow offset size = 0 := by
  have shifted (k : Nat) : (0 : Word) >>> k = 0 := BitVec.zero_ushiftRight
  unfold State.readWindow
  rw [h, shifted]
  cases size <;> rfl

/-- The receiver at its reset values is within its bounds. -/
theorem Receiver.bounded_reset : Receiver.reset.bounded :=
  ⟨by decide, by decide, by decide, fun _ => rfl, fun e => nomatch e⟩

/-- Without deadlines, with every stream CLOSED and no page current, the law of deadlines holds (R50). -/
theorem State.Fresh.deadlineLaw {s : State} (h : s.Fresh) (hd : s.time.deadlines = []) : s.deadlineLaw := by
  have none_due (n : StreamId) (k : DeadlineKind) : s.deadline n k = none := by
    unfold State.deadline
    rw [hd]
    rfl
  exact {
    unique := by
      unfold State.deadlinesUnique
      rw [hd]
      exact .nil
    head := fun n due => by
      rw [none_due, h.stream]
      simp [Stream.reset]
    silence := fun n => by
      rw [none_due, h.stream]
      simp [Stream.reset]
    age := fun n => by
      rw [none_due, h.page]
      simp [PageState.reset] }

theorem State.lawful_reset : State.reset.lawful where
  windows := State.fresh_reset.orderly.windowLaw
  closings := State.fresh_reset.orderly.closingLaw
  deadlines := State.fresh_reset.deadlineLaw rfl
  store := State.fresh_reset.orderly.storeLaw

theorem State.routesUnique_reset : State.reset.routesUnique := by
  intro i j a b hi
  simp [State.reset, Acceptance.reset] at hi

/-- Settles O3: the values are those of the reset tables; the laws hold because every stream is CLOSED and holds nothing. -/
theorem resetStateReadsAndLaws : Obligations.ResetStateReadsAndLaws := by
  have stream := State.fresh_reset.stream
  have page := State.fresh_reset.page
  refine ⟨⟨rfl, rfl, rfl, rfl, rfl, rfl, rfl, rfl, rfl, rfl⟩, stream, ?_, rfl, rfl, page, rfl, rfl, fun l => ?_, rfl, rfl,
    rfl, fun size => ?_, rfl, rfl, .nil, rfl, Nat.zero_le _, fun n => ?_, fun n => ?_, State.routesUnique_reset,
    ⟨Receiver.bounded_reset, Receiver.bounded_reset⟩, fun n => ?_, ⟨fun _ => State.resetBlocks_reset.symm, ?_⟩,
    State.lawful_reset⟩
  · rw [State.fresh_reset.pool]
    exact .refl _
  · cases l <;> rfl
  · refine ⟨?_, ?_, ?_, ?_, ?_, ?_, ?_⟩
    all_goals exact State.readWindow_of_zero (by rfl) size
  · rw [page]
    exact Nat.zero_le _
  · rw [stream]
    exact Nat.zero_le _
  · rw [stream]
    exact Nat.zero_le _
  · intro e
    cases e

end Sys2Proof.Machine
end

section
/-! Early offers, and the resync at the threshold K (O32). -/

namespace Sys2Proof.Machine

open Sys2Proof

/-- A RUNNING stream finds a burst early in the half of the sequences ahead, past its window (R30). -/
theorem State.offerToRunning_of_early (s : State) (n : StreamId) (f : Frame) (l : LinkId)
    (ho : (s.stream n).config.w ≤ (s.stream n).offset f.sequence) (hx : (s.stream n).offset f.sequence < 32768) :
    s.offerToRunning n f l = s.offerEarly n f l := by
  unfold State.offerToRunning
  dsimp only
  rw [if_neg (Nat.not_lt.2 ho), if_pos hx]

/-- A stream after it counted an early burst (R33). -/
def Stream.earlyCounted (st : Stream) : Stream :=
  { st with
    earlyRun := min 15 (st.earlyRun + 1), counters := { st.counters with early := st.counters.early + 1 },
    changed := true }

/-- The early burst is counted first; the counted run then decides on the resync (R33). -/
theorem State.offerEarly_eq (s : State) (n : StreamId) (f : Frame) (l : LinkId) (hr : (s.stream n).earlyRun ≤ 15) :
    s.offerEarly n f l =
      if (s.stream n).config.k = 0 ∨ min 15 ((s.stream n).earlyRun + 1) < (s.stream n).config.k
      then some (s.setStream n (s.stream n).earlyCounted)
      else (s.setStream n (s.stream n).earlyCounted).resync n f l := by
  unfold State.offerEarly State.modStream
  simp only [State.stream_setStream_self, earlyRunAfter_eq _ hr]
  rfl

/-- A stream whose window was flushed (R8). -/
def Stream.windowFlushed (st : Stream) : Stream :=
  { st with
    window := st.window.map (fun _ => none)
    counters := { st.counters with flushed := st.counters.flushed + BitVec.ofNat 32 (st.window.filterMap id).length }
    changed := st.changed || decide ((st.window.filterMap id).length ≠ 0) }

/-- The pool after a stream's window was flushed (R8, R16). -/
def State.poolAfterFlush (s : State) (n : StreamId) : List BufferId :=
  ((s.stream n).window.filterMap id).map (fun b => b.buffer) ++ s.store.pool

/-- The buffers of a stream's window are back in the pool (R8, R16). -/
def State.windowFreed (s : State) (n : StreamId) : State :=
  { s with store := { s.store with pool := s.poolAfterFlush n } }

/-- The flush and the alarm a resync begins with (R33, R73). -/
theorem State.alarm_flushWindow (s : State) (n : StreamId) : (s.flushWindow n).alarm n =
    ((s.windowFreed n).setStream n (s.stream n).windowFlushed).raiseIf
      (s.stream n).config.options.notifyAlarms causeAlarm := by
  unfold State.alarm
  rw [s.flushWindow_eq n, State.stream_setStream_self]
  rfl

theorem State.raiseIf_silenceAfter (s : State) (c : Bool) (b : BitVec 7) (n : StreamId) (p : Half) (t : Word) :
    (s.raiseIf c b).silenceAfter n p t = (s.silenceAfter n p t).raiseIf c b := by
  unfold State.silenceAfter
  split
  · rfl
  · exact s.raiseIf_arm c b n _ _

theorem State.cancel_setStream (s : State) (n m : StreamId) (st : Stream) (k : DeadlineKind) :
    (s.setStream n st).cancel m k = (s.cancel m k).setStream n st := rfl

/-- A resync on an unmarked burst under MARK SYNC: the stream waits for a burst to anchor on (R33). -/
theorem State.resync_of_unmarked (s : State) (n : StreamId) (f : Frame) (l : LinkId)
    (hm : (s.stream n).config.options.markSync = true) (hf : f.mark = false) (hs : (s.stream n).state ≠ .acquiring) :
    s.resync n f l = some (((((s.windowFreed n).cancel n .head).setStream n
      { (s.stream n).windowFlushed with state := .acquiring, earlyRun := 0, changed := true }).join
        n.castSucc).raiseIf (s.stream n).config.options.notifyAlarms causeAlarm) := by
  have unmarked : ((s.stream n).windowFlushed.config.options.markSync && !f.mark) = true :=
    Bool.and_eq_true_iff.2 ⟨hm, by rw [hf]; rfl⟩
  unfold State.resync State.modStream
  simp only [State.alarm_flushWindow, State.stream_raiseIf, State.stream_setStream_self, unmarked, if_true,
    State.raiseIf_cancel, State.cancel_setStream, State.raiseIf_setStream, State.setStream_setStream]
  rw [State.changeState_of_ne, State.stateChanged, State.stream_raiseIf, State.stream_setStream_self,
    State.raiseIf_setStream, State.setStream_setStream, State.raiseIf_join]
  rw [State.stream_raiseIf, State.stream_setStream_self]
  exact hs

/-- A resync on a burst the stream may anchor on, which finds a buffer in the pool after the flush (R29, R33). -/
theorem State.resync_of_marked (s : State) (n : StreamId) (f : Frame) (l : LinkId) {b : BufferId}
    {pool : List BufferId} (hm : (s.stream n).config.options.markSync = true → f.mark = true)
    (hs : (s.stream n).state = .running) (hc : (s.stream n).changed = true) (hp : s.poolAfterFlush n = b :: pool) :
    s.resync n f l = some (((((s.filled b pool f.samples).setStream n
      ((s.stream n).windowFlushed.anchored (slotBurst b f l s.time.tick))).arm n .head
        (s.time.tick + (s.stream n).config.d)).silenceAfter n (s.stream n).config.silence s.time.tick).raiseIf
          (s.stream n).config.options.notifyAlarms causeAlarm) := by
  have marked : ¬ ((s.stream n).windowFlushed.config.options.markSync && !f.mark) = true := by
    show ¬ ((s.stream n).config.options.markSync && !f.mark) = true
    simpa using hm
  have changed : (s.stream n).windowFlushed.changed = true := by
    show ((s.stream n).changed || _) = true
    rw [hc, Bool.true_or]
  have flushed : ((s.flushWindow n).alarm n).stream n = (s.stream n).windowFlushed := by
    rw [s.alarm_flushWindow, State.stream_raiseIf, State.stream_setStream_self]
  have pool' : ((s.flushWindow n).alarm n).store.pool = b :: pool := by
    rw [s.alarm_flushWindow, State.store_raiseIf]
    exact hp
  unfold State.resync
  dsimp only
  rw [flushed, if_neg marked, State.anchor_eq_of_running _ n f l pool' (flushed ▸ hs), flushed, changed,
    Bool.true_or, Bool.true_or, s.alarm_flushWindow, State.raiseIf_filled, State.raiseIf_setStream,
    State.filled_setStream, State.setStream_setStream, State.raiseIf_arm, State.raiseIf_silenceAfter,
    State.time_raiseIf]
  rfl

/-- Settles O32: the counted run decides; at K the flush comes first, and the burst's mark under MARK SYNC decides. -/
theorem offerEarlyAndResync : Obligations.OfferEarlyAndResync := by
  intro s h ho n st o run gone back flushed d hs hr hw hl
  have stream : (s.offerEnds h).stream n = st := s.stream_offerEnds h _
  have early : (s.offerEnds h).takeOffer n h.frame h.link = (s.offerEnds h).offerEarly n h.frame h.link :=
    (State.takeOffer_of_running _ _ _ _ (stream ▸ hs)).trans
      (State.offerToRunning_of_early _ _ _ _ (by rw [stream]; exact hw) (by rw [stream]; exact hl))
  rw [State.offerEarly_eq _ _ _ _ (stream ▸ hr), stream] at early
  obtain ⟨v, hv⟩ : ∃ v, v = (s.offerEnds h).setStream n st.earlyCounted := ⟨_, rfl⟩
  have counted : v.stream n = st.earlyCounted := by rw [hv, State.stream_setStream_self]
  have pool : v.poolAfterFlush n = back := by
    unfold State.poolAfterFlush
    rw [counted, hv, State.store_setStream, s.store_offerEnds]
    rfl
  have freed : v.windowFreed n = ({ s.offerEnds h with
      store := { (s.offerEnds h).store with pool := back } } : State).setStream n st.earlyCounted := by
    rw [State.windowFreed, pool, hv]
    rfl
  have resync (hk : st.config.k ≠ 0) (hrun : st.config.k ≤ run) :
      (s.offerEnds h).takeOffer n h.frame h.link = v.resync n h.frame h.link := by
    rw [early, if_neg (not_or.2 ⟨hk, Nat.not_lt.2 hrun⟩), hv]
  refine ⟨fun hk => ?_, fun hk hrun hm hf => ?_, fun b pool' hk hrun hm hp => ?_⟩
  · rw [exec_offer ho (early.trans (if_pos hk))]
    rfl
  · have e := (resync hk hrun).trans (v.resync_of_unmarked n h.frame h.link (counted ▸ hm) hf
      (by rw [counted]; exact ne_of_eq_of_ne hs (by decide)))
    rw [exec_offer ho e, counted, freed, State.cancel_setStream, State.setStream_setStream]
    rfl
  · have e := (resync hk hrun).trans (v.resync_of_marked n h.frame h.link (counted ▸ hm) (counted ▸ hs)
      (by rw [counted]; rfl) (pool.trans hp))
    rw [exec_offer ho e, counted, hv, State.filled_setStream, State.setStream_setStream, State.time_setStream,
      s.time_offerEnds, Stream.anchored, ← hs]
    rfl

end Sys2Proof.Machine
end

section
/-! SUPPORT. The Deadline Queue's two operations and the device timers (R41 to R53): cancelRemovesEntry, armReplacesEntry,
ticksAndDeviceTimers. -/

namespace Sys2Proof.Machine

open Sys2Proof

/-! ### The Deadline Queue -/

/-- An entry that does not expire: the expiry of its kind does not occur (R46, R47). -/
theorem State.noExpiry {s : State} {n : StreamId} {k : DeadlineKind} (h : s.expired n k = none) :
    (k = .head → exec (.headExpiry n) s = .next s) ∧ (k = .silence → exec (.silenceExpiry n) s = .next s)
      ∧ (k = .age → exec (.ageExpiry n) s = .next s) := by
  refine ⟨fun e => ?_, fun e => ?_, fun e => ?_⟩
  · simp only [exec, execHeadExpiry, e ▸ h]
  · simp only [exec, execSilenceExpiry, e ▸ h]
  · simp only [exec, execAgeExpiry, e ▸ h]

theorem insertDeadline_perm (tick : Word) (e : Deadline) (q : List Deadline) :
    (insertDeadline tick e q).Perm (e :: q) := by
  induction q with
  | nil => exact .refl _
  | cons x q ih =>
    unfold insertDeadline
    split
    · exact .refl _
    · exact (ih.cons x).trans (.swap e x q)

/-- No entry that a cancel leaves is of the stream and kind (R46). -/
theorem filter_isFor_removeDeadline (q : List Deadline) (n : StreamId) (k : DeadlineKind) :
    (removeDeadline q n k).filter (Deadline.isFor n k) = [] :=
  List.filter_eq_nil_iff.2 (fun _ he => Bool.not_eq_true _ ▸ Bool.not_eq_true' _ ▸ (List.mem_filter.1 he).2)

/-- An arming leaves one entry of the stream and kind (R45). -/
theorem length_filter_isFor_armDeadlineIn (tick : Word) (q : List Deadline) (n : StreamId) (k : DeadlineKind) (due : Word) :
    ((armDeadlineIn tick q n k due).filter (Deadline.isFor n k)).length = 1 := by
  have own : Deadline.isFor n k { stream := n, kind := k, due := due } = true := (Deadline.isFor_iff _ n k).2 ⟨rfl, rfl⟩
  rw [armDeadlineIn, ((insertDeadline_perm tick _ _).filter _).length_eq, List.filter_cons_of_pos own,
    filter_isFor_removeDeadline]
  rfl

/-- Settles O17. -/
theorem cancelRemovesEntry : Obligations.CancelRemovesEntry := fun s n k =>
  ⟨s.deadline_cancel_self n k, fun _ _ h => s.deadline_cancel_ne h, rfl,
    fun h => congrArg s.setDeadlines (removeDeadline_of_none h),
    State.noExpiry (State.expired_eq_none (.inr (.inl (s.deadline_cancel_self n k))))⟩

/-- Settles O18. -/
theorem armReplacesEntry : Obligations.ArmReplacesEntry := fun s n k due =>
  ⟨s.deadline_arm_self n k due, length_filter_isFor_armDeadlineIn s.time.tick s.time.deadlines n k due,
    fun _ _ h => s.deadline_arm_ne due h, rfl, fun working reached => ⟨working, s.deadline_arm_self n k due, reached⟩,
    fun h => State.noExpiry (State.expired_eq_none h)⟩

/-! ### Ticks and the device timers -/

theorem execTick_of_working {s : State} (h : s.global.working = true) : execTick s = .next s.tickOver := if_pos h

theorem execTick_of_not_working {s : State} (h : s.global.working = false) : execTick s = .next s :=
  if_neg (Bool.not_eq_true _ ▸ h)

/-- An armed timer whose due tick the counter has reached (R43, R52, R53). -/
theorem Timer.expired_of_due {t : Timer} {tick : Word} (armed : t.armed = true) (due : (tick - t.due).toNat < 2 ^ 31) :
    t.expired tick = true := (Bool.and_eq_true _ _).mpr ⟨armed, (reached_iff tick t.due).2 due⟩

/-- A timer that cannot expire now (R43, R51). -/
theorem not_expires {s : State} {t : Timer}
    (h : s.global.working = false ∨ t.armed = false ∨ 2 ^ 31 ≤ (s.time.tick - t.due).toNat) :
    ¬ (s.global.working = true ∧ t.expired s.time.tick = true) := fun hc =>
  h.elim (fun hw => Bool.false_ne_true (hw.symm.trans hc.1))
    (fun ht => Bool.false_ne_true ((Timer.expired_eq_false ht).symm.trans hc.2))

/-- Settles O16. -/
theorem ticksAndDeviceTimers : Obligations.TicksAndDeviceTimers := by
  refine ⟨fun s => ⟨fun h => execTick_of_working ?_, fun h => execTick_of_not_working ?_⟩,
    fun s working => ⟨fun armed due => if_pos ⟨working, Timer.expired_of_due armed due⟩,
      fun armed due => ⟨_, if_pos ⟨working, Timer.expired_of_due armed due⟩, rfl,
        fun n => State.joinChanged_stream _ n, State.joinChanged_device _⟩⟩,
    fun s => ⟨fun h => if_neg (not_expires h), fun h => if_neg (not_expires h)⟩⟩
  · obtain h | ⟨p, h⟩ := h <;> rw [h] <;> rfl
  · obtain h | h | h := h <;> rw [h] <;> rfl

end Sys2Proof.Machine
end

section
/-! SUPPORT. One reference clock period (R42, R98, R180): clockPeriodCounts. -/

namespace Sys2Proof.Machine

open Sys2Proof

/-! ### The counts of a receiver -/

/-- The line-loss event of this period takes the receiver out of UP (R98, R101). -/
def Receiver.leaves (r : Receiver) : Prop := r.state = .up ∧ r.symbolTaken = false ∧ 1024 ≤ r.lossCount + 1

open Classical in
/-- Whether the receiver leaves UP. -/
noncomputable def Receiver.falls (r : Receiver) : Bool := decide r.leaves

/-- The receiver after a line-loss event in UP (R98, R101). -/
noncomputable def Receiver.fallen (r : Receiver) : Receiver :=
  { ({ r with lossCount := 0 } : Receiver).outside with
    state := .hunt, idleRun := 0, violationRun := 0
    counters := { r.counters with
      formatErrors := r.counters.formatErrors + if r.assembly = .inFrame then 1 else 0 } }

/-- The receiver after a period in which it took a symbol (R98). -/
noncomputable def Receiver.heard (r : Receiver) : Receiver := { r with symbolTaken := false }

/-- The receiver after a period without a symbol (R98). -/
noncomputable def Receiver.missed (r : Receiver) : Receiver := { r with lossCount := r.lossCount + 1 }

/-- The receiver after a line-loss event in HUNT (R98, R101). -/
noncomputable def Receiver.lostInHunt (r : Receiver) : Receiver := { r with lossCount := 0, idleRun := 0 }

/-- The receiver after the line-loss count of a period (R98). -/
noncomputable def Receiver.counted (r : Receiver) : Receiver :=
  if r.state = .off then r
  else if r.symbolTaken = true then r.heard
  else if r.lossCount + 1 < 1024 then r.missed
  else if r.state = .up then r.fallen
  else r.lostInHunt

section
variable {r : Receiver}

open Classical in
theorem Receiver.falls_of_leaves (h : r.leaves) : r.falls = true := decide_eq_true h

open Classical in
theorem Receiver.falls_of_not (h : ¬ r.leaves) : r.falls = false := decide_eq_false h

theorem Receiver.counted_of_off (off : r.state = .off) : r.counted = r := if_pos off

theorem Receiver.counted_of_symbol (on : r.state ≠ .off) (symbol : r.symbolTaken = true) : r.counted = r.heard :=
  (if_neg on).trans (if_pos symbol)

theorem Receiver.counted_of_quiet (on : r.state ≠ .off) (quiet : r.symbolTaken = false) (few : r.lossCount + 1 < 1024) :
    r.counted = r.missed := (if_neg on).trans ((if_neg (Bool.not_eq_true _ ▸ quiet)).trans (if_pos few))

theorem Receiver.counted_of_lost (on : r.state ≠ .off) (quiet : r.symbolTaken = false) (lost : 1024 ≤ r.lossCount + 1) :
    r.counted = if r.state = .up then r.fallen else r.lostInHunt :=
  (if_neg on).trans ((if_neg (Bool.not_eq_true _ ▸ quiet)).trans (if_neg (Nat.not_lt.2 lost)))

theorem Receiver.counted_of_lost_hunt (hunt : r.state = .hunt) (quiet : r.symbolTaken = false)
    (lost : 1024 ≤ r.lossCount + 1) : r.counted = r.lostInHunt :=
  (Receiver.counted_of_lost (hunt ▸ by decide) quiet lost).trans (if_neg (hunt ▸ by decide))

theorem Receiver.counted_of_leaves (h : r.leaves) : r.counted = r.fallen :=
  (Receiver.counted_of_lost (h.1 ▸ by decide) h.2.1 h.2.2).trans (if_pos h.1)

end

/-- A link that leaves UP marks the device record and raises LINK (R109). -/
noncomputable def State.marked (up : Bool) (s : State) : State :=
  { s with tally := { s.tally with deviceChanged := up || s.tally.deviceChanged }, cause := cond up (s.cause ||| causeLink) s.cause }

section
variable {s : State} {l : LinkId}

theorem State.lineLoss_of_up (working : s.global.working = true) (up : (s.rx l).state = .up) :
    s.lineLoss l = (s.setRx l (s.rx l).fallen).marked true := by
  rw [State.lineLoss, if_pos working, up]
  refine (State.leaveUp_eq _ l).trans (congrArg (fun u : State => u.markDevice.raise causeLink) (a₂ := s.setRx l (s.rx l).fallen) ?_)
  rw [State.rx_setRx_self, State.setRx_setRx]
  rfl

theorem State.rx_lineLoss_of_up (working : s.global.working = true) (up : (s.rx l).state = .up) :
    (s.lineLoss l).rx l = (s.rx l).fallen :=
  (congrArg (State.rx · l) (State.lineLoss_of_up working up)).trans (s.rx_setRx_self l _)

theorem State.lineLoss_of_hunt (working : s.global.working = true) (hunt : (s.rx l).state = .hunt) :
    s.lineLoss l = s.setRx l (s.rx l).lostInHunt := by
  rw [State.lineLoss, if_pos working, hunt]
  rfl

theorem LinkState.eq_hunt {x : LinkState} (on : x ≠ .off) (down : x ≠ .up) : x = .hunt := by
  induction x
  case off => exact absurd rfl on
  case hunt => rfl
  case up => exact absurd rfl down

theorem State.setRx_rx (s : State) (l : LinkId) : s.setRx l (s.rx l) = s := by cases l <;> rfl

section
variable (working : s.global.working = true) (on : (s.rx l).state ≠ .off)
include working on

theorem State.countLine_of_symbol (symbol : (s.rx l).symbolTaken = true) :
    s.countLine l = s.setRx l (s.rx l).heard := (if_pos ⟨working, on⟩).trans (if_pos symbol)

theorem State.countLine_of_quiet (quiet : (s.rx l).symbolTaken = false) :
    s.countLine l = if 1024 ≤ (s.rx l).lossCount + 1 then s.lineLoss l
      else s.setRx l (s.rx l).missed :=
  (if_pos ⟨working, on⟩).trans (if_neg (Bool.not_eq_true _ ▸ quiet))

end

/-- What the line-loss count of a link changes (R98). -/
theorem State.countLine_eq (working : s.global.working = true) :
    s.countLine l = (s.setRx l (s.rx l).counted).marked (s.rx l).falls := by
  have marks {r r' : Receiver} {b b' : Bool} (e : r = r') (m : b = b') : (s.setRx l r).marked b = (s.setRx l r').marked b' :=
    congrArg₂ (fun r b => (s.setRx l r).marked b) e m
  have stays {r : Receiver} (e : s.countLine l = s.setRx l r) (c : (s.rx l).counted = r) (h : ¬ (s.rx l).leaves) :
      s.countLine l = (s.setRx l (s.rx l).counted).marked (s.rx l).falls :=
    e.trans (marks c (Receiver.falls_of_not h)).symm
  by_cases on : (s.rx l).state = .off
  · exact stays ((if_neg (fun c => c.2 on)).trans (s.setRx_rx l).symm) (Receiver.counted_of_off on)
      (fun c => LinkState.noConfusion (on.symm.trans c.1))
  by_cases symbol : (s.rx l).symbolTaken = true
  · exact stays (State.countLine_of_symbol working on symbol) (Receiver.counted_of_symbol on symbol)
      (fun c => Bool.false_ne_true (c.2.1.symm.trans symbol))
  have quiet := Bool.eq_false_iff.2 symbol
  have counted := State.countLine_of_quiet working on quiet
  by_cases lost : 1024 ≤ (s.rx l).lossCount + 1
  · have lostRx := Receiver.counted_of_lost on quiet lost
    by_cases up : (s.rx l).state = .up
    · exact ((counted.trans (if_pos lost)).trans (State.lineLoss_of_up working up)).trans
        (marks (lostRx.trans (if_pos up)) (Receiver.falls_of_leaves ⟨up, quiet, lost⟩)).symm
    · exact stays ((counted.trans (if_pos lost)).trans (State.lineLoss_of_hunt working (LinkState.eq_hunt on up))) (lostRx.trans (if_neg up))
        (fun c => up c.1)
  · exact stays (counted.trans (if_neg lost)) (Receiver.counted_of_quiet on quiet (Nat.not_le.1 lost)) (fun c => lost c.2.2)

end

/-! ### The counts of a period -/

/-- The divider count (R42). -/
noncomputable def TimeBase.counted (t : TimeBase) : TimeBase :=
  if t.divCount + 1 < t.divider then { t with divCount := t.divCount + 1 }
  else { t with tick := t.tick + 1, divCount := 0 }

/-- The counts of a period but for the response count (log 2). -/
noncomputable def State.counts (s : State) : State := (s.countDivider.countLine .a).countLine .b

/-- The counts of a period in a part that works (log 2). -/
noncomputable def State.clocked (s : State) : State :=
  ((((({ s with time := s.time.counted } : State).setRx .a s.rxA.counted).marked s.rxA.falls).setRx .b
    s.rxB.counted).marked s.rxB.falls)

section
variable {s : State}

theorem State.counts_of_rest (h : s.global.working = false) : s.counts = s := by
  have still (l : LinkId) : s.countLine l = s := if_neg (fun c => Bool.false_ne_true (h.symm.trans c.1))
  have divider : s.countDivider = s := if_neg (Bool.not_eq_true _ ▸ h)
  exact (congrArg (fun u : State => (u.countLine .a).countLine .b) divider).trans
    ((congrArg (State.countLine .b) (still .a)).trans (still .b))

theorem State.countDivider_eq (h : s.global.working = true) : s.countDivider = { s with time := s.time.counted } := by
  refine (if_pos h).trans (.trans ?_ (apply_ite (fun t => ({ s with time := t } : State)) _ _ _).symm)
  by_cases few : s.time.divCount + 1 < s.time.divider
  · exact (if_neg (Nat.not_le.2 few)).trans (if_pos few).symm
  · exact (if_pos (Nat.not_lt.1 few)).trans (if_neg few).symm

theorem State.counts_of_working (h : s.global.working = true) : s.counts = s.clocked :=
  (congrArg (fun u : State => (u.countLine .a).countLine .b) (State.countDivider_eq h)).trans
    ((congrArg (State.countLine .b) (State.countLine_eq (l := .a) (s := { s with time := s.time.counted }) h)).trans
      (State.countLine_eq (l := .b) h))

/-- The counts of a period rest on no transaction and no free value. -/
theorem State.counts_withPort (p : Port) (k : Nat) :
    ({ s with port := p, freeCount := k } : State).counts = { s.counts with port := p, freeCount := k } := by
  have moved {u v : State} := congrArg (fun u : State => { u with port := p, freeCount := k }) (a₁ := u) (a₂ := v)
  cases h : s.global.working
  · exact (State.counts_of_rest (s := { s with port := p, freeCount := k }) h).trans (moved (State.counts_of_rest h).symm)
  · exact (State.counts_of_working (s := { s with port := p, freeCount := k }) h).trans (moved (State.counts_of_working h).symm)

/-- A state that differs in what a period counts, and in the number of free values used. -/
def State.DuringPeriod (s u : State) : Prop := u = { s with
  time := u.time, rxA := u.rxA, rxB := u.rxB, tally := u.tally, cause := u.cause, freeCount := u.freeCount }

/-- What the counts of a period leave as it was (log 2). -/
theorem State.counts_frame : s.counts = { s with
    time := s.counts.time, rxA := s.counts.rxA, rxB := s.counts.rxB, tally := s.counts.tally, cause := s.counts.cause } := by
  cases h : s.global.working
  · rw [State.counts_of_rest h]
  · rw [State.counts_of_working h]
    rfl

/-- LINK is raised by each link that leaves UP (R109). -/
noncomputable def linkCause (cause : BitVec 7) (x : Bool × Bool) : BitVec 7 :=
  cond x.2 (cond x.1 (cause ||| causeLink) cause ||| causeLink) (cond x.1 (cause ||| causeLink) cause)

theorem linkCause_of_or {cause : BitVec 7} {a b : Bool} (h : a = true ∨ b = true) :
    linkCause cause (a, b) = cause ||| 0x08#7 := by
  cases a
  · exact h.resolve_left Bool.false_ne_true ▸ rfl
  · cases b
    · rfl
    · exact (BitVec.or_assoc cause _ _).trans (congrArg _ BitVec.or_self)

theorem or_or_of_or : ∀ a b c : Bool, a = true ∨ b = true → (b || (a || c)) = true := by decide

section
variable (working : s.global.working = true)
include working

theorem State.rx_counts (l : LinkId) : s.counts.rx l = (s.rx l).counted := by
  rw [State.counts_of_working working]
  cases l <;> rfl

theorem State.counts_of_stays (a : ¬ s.rxA.leaves) (b : ¬ s.rxB.leaves) :
    s.counts.tally = s.tally ∧ s.counts.cause = s.cause :=
  have falls : (s.rxA.falls, s.rxB.falls) = (false, false) :=
    congrArg₂ Prod.mk (Receiver.falls_of_not a) (Receiver.falls_of_not b)
  ⟨(congrArg State.tally (State.counts_of_working working)).trans
    (congrArg (fun x => { s.tally with deviceChanged := x.2 || (x.1 || s.tally.deviceChanged) }) falls),
    (congrArg State.cause (State.counts_of_working working)).trans (congrArg (linkCause s.cause) falls)⟩

theorem State.counts_of_leaves (h : s.rxA.leaves ∨ s.rxB.leaves) :
    s.counts.tally = { s.tally with deviceChanged := true } ∧ s.counts.cause = s.cause ||| 0x08#7 :=
  have falls := h.imp Receiver.falls_of_leaves Receiver.falls_of_leaves
  ⟨(congrArg State.tally (State.counts_of_working working)).trans
    (congrArg (fun x => { s.tally with deviceChanged := x }) (or_or_of_or _ _ _ falls)),
    (congrArg State.cause (State.counts_of_working working)).trans (linkCause_of_or falls)⟩

end

/-! ### The timeout -/

/-- The state that entry to FAULTED leads to (R176, R178). -/
noncomputable def State.faultedWith (s : State) (reason : FaultReason) (addr : Word) : State :=
  { s with
    global := .faulted, faultReason := reason, faultAddr := addr, cause := s.cause ||| 0x40#7
    port := { s.port with flight := none }, sysMem := s.abandonFlight.sysMem, freeCount := s.abandonFlight.freeCount }

/-- The entry to FAULTED of a state that differs in what a period counts (R176, R178). -/
theorem State.DuringPeriod.flightFails {u : State} {f : Flight} (h : s.DuringPeriod u) (hf : s.port.flight = some f)
    (fails : s.global.canFault = true) (reason : FaultReason) :
    u.flightFails reason = u.faultedWith reason f.tx.addr := by
  have flight : u.port.flight = some f := (congrArg (fun v : State => v.port.flight) h).trans hf
  rw [State.flightFails, if_pos ((congrArg (fun v : State => v.global.canFault) h).trans fails), flight]
  exact congrArg (fun v : State => ({ v with global := .faulted, faultReason := reason, faultAddr := f.tx.addr } : State).raise
    causeFault) u.abandonFlight_frame

theorem step_of_empty (h : s.pending = []) : step s = .next s.clockPeriod := by
  rw [step, h]

theorem State.clockPeriod_of_inTime (h : ∀ f, s.port.flight = some f → f.periods + 1 < 65536) :
    s.clockPeriod = s.counts.countResponse := by
  refine if_neg (Bool.not_eq_true _ ▸ ?_)
  delta State.timeoutNow
  generalize s.port.flight = x at h
  induction x
  case none => rfl
  case some f => exact decide_eq_false (Nat.not_le.2 (h f rfl))

/-- What a period counts. -/
noncomputable def State.clocks (s : State) : TimeBase × Receiver × Receiver × Tally × BitVec 7 :=
  (s.time, s.rxA, s.rxB, s.tally, s.cause)

/-- The same with FAULT raised. -/
theorem raised_clocks {x y : TimeBase × Receiver × Receiver × Tally × BitVec 7} (e : x = y) :
    (x.1, x.2.1, x.2.2.1, x.2.2.2.1, x.2.2.2.2 ||| 0x40#7) = (y.1, y.2.1, y.2.2.1, y.2.2.2.1, y.2.2.2.2 ||| 0x40#7) :=
  e ▸ rfl

/-- A period that times out takes its counts after the timeout or before it (log 4). -/
theorem State.clockPeriod_of_timeout {f : Flight} (hf : s.port.flight = some f) (late : 65536 ≤ f.periods + 1) :
    ∃ u, s.clockPeriod = u.flightFails .busTimeout ∧ s.DuringPeriod u ∧ (u.clocks = s.clocks ∨ u.clocks = s.counts.clocks) := by
  have timeout : s.timeoutNow = true := by
    rw [State.timeoutNow, hf]
    exact decide_eq_true late
  by_cases first : Config.timeoutFirst s.freeCount = true
  · exact ⟨_, (if_pos timeout).trans (if_pos first), rfl, .inl rfl⟩
  · exact ⟨_, (if_pos timeout).trans ((if_neg first).trans (congrArg (State.flightFails .busTimeout)
      (State.counts_withPort s.port (s.freeCount + 1)))),
        congrArg (fun v : State => ({ v with port := s.port, freeCount := s.freeCount + 1 } : State)) s.counts_frame, .inr rfl⟩

/-- The period of a part with no transaction in flight (log 2). -/
theorem State.step_portFreed (empty : s.pending = []) :
    step s.portFreed = .next
      ({ s.counts with port := { s.port with flight := none }, freeCount := s.freeCount } : State).countResponse :=
  (step_of_empty (s := s.portFreed) empty).trans (congrArg Host.Outcome.next
    ((State.clockPeriod_of_inTime (s := s.portFreed) (fun f hf => absurd hf.symm (Option.some_ne_none f))).trans
      (congrArg State.countResponse (State.counts_withPort _ s.freeCount))))

end

/-- Settles O2. -/
theorem clockPeriodCounts : Obligations.ClockPeriodCounts := by
  constructor
  · intro s empty inTime lost leaves
    refine ⟨s.counts.countResponse, (step_of_empty empty).trans (congrArg _ (State.clockPeriod_of_inTime inTime)),
      congrArg State.countResponse s.counts_frame, fun rest => ?_, fun working => ⟨congrArg State.time
        (State.counts_of_working working), State.counts_of_stays working, State.counts_of_leaves working, fun l => ?_⟩⟩
    · rw [State.counts_of_rest rest]
      rfl
    · have rx : s.counts.countResponse.rx l = (s.rx l).counted :=
        Eq.trans (by cases l <;> rfl) (State.rx_counts working l)
      exact ⟨fun off => rx.trans (Receiver.counted_of_off off), fun on h => rx.trans (Receiver.counted_of_symbol on h),
        fun on quiet few => rx.trans (Receiver.counted_of_quiet on quiet few),
        fun hunt lost => rx.trans (Receiver.counted_of_lost_hunt hunt lost.1 lost.2),
        fun leaves => ⟨s.lineLoss l, rfl, rx.trans ((Receiver.counted_of_leaves leaves).trans
          (State.rx_lineLoss_of_up working leaves.1).symm)⟩⟩
  · intro s f empty hf fails late
    refine (State.clockPeriod_of_timeout hf late).elim (fun u h => ?_)
    have period := h.1
    have counted := h.2.1
    have clocks := h.2.2
    have faulted := counted.flightFails hf fails .busTimeout
    refine ⟨_, _, (step_of_empty empty).trans (congrArg _ (period.trans faulted)), State.step_portFreed empty,
      congrArg (fun v : State => ({ v with
        global := .faulted, faultReason := .busTimeout, faultAddr := f.tx.addr, cause := u.cause ||| 0x40#7
        port := { v.port with flight := none }, sysMem := u.abandonFlight.sysMem
        freeCount := u.abandonFlight.freeCount } : State)) counted, clocks.imp raised_clocks raised_clocks, fun a ha => ?_⟩
    exact (u.abandonFlight_outside f ((congrArg (fun v : State => v.port.flight) counted).trans hf) a ha).trans
        (congrArg (fun v : State => Memory.read v.sysMem a) counted :)

end Sys2Proof.Machine
end

section
/-! SUPPORT. The law of the Deadline Queue (R50) for one stream, and what it rests on. -/

namespace Sys2Proof.Machine

open Sys2Proof

/-- What the law of the Deadline Queue speaks of: the entries, the streams and their pages. -/
noncomputable def State.face (s : State) : List Deadline × Vector Stream 64 × Vector PageState 64 :=
  (s.time.deadlines, s.streams, s.pages)

/-- A property of the entries of a stream, the stream and its pages. -/
def State.meets (s : State) (n : StreamId) (q : (DeadlineKind → Option Word) → Stream → PageState → Prop) : Prop :=
  q (s.deadline n) (s.stream n) (s.page n)

/-! ### What the law asks of the entries of a stream -/

/-- The head deadline of the stream is counted: it has a HEAD entry (R50). -/
def Stream.headRuns (st : Stream) : Prop := st.state = .running ∨ (st.state = .draining ∧ ∃ b, some b ∈ st.window)

/-- The silence of the stream is measured: it has a SILENCE entry (R50). -/
def Stream.measured (st : Stream) : Prop :=
  st.state.silenceRuns = true ∧ st.config.silence ≠ 0

/-- The age of the current page is counted: the stream has an AGE entry (R50). -/
def Stream.aged (st : Stream) (pg : PageState) : Prop :=
  (∃ p, pg.current = some p ∧ 1 ≤ p.count) ∧ st.config.ageLimit ≠ 0

/-- There is an entry exactly when a condition holds. -/
def entryIff (o : Option Word) (c : Prop) : Prop := (∃ due, o = some due) ↔ c

/-- HEAD stands as the law asks. -/
def HeadEntry (d : DeadlineKind → Option Word) (st : Stream) : Prop :=
  ∀ due, d .head = some due ↔ st.headRuns ∧ due = st.headDeadline

/-- The entries of a stream stand as the law asks. -/
def Timed (d : DeadlineKind → Option Word) (st : Stream) (pg : PageState) : Prop :=
  HeadEntry d st ∧ entryIff (d .silence) st.measured
    ∧ entryIff (d .age) (st.aged pg)

section
variable {d : DeadlineKind → Option Word} {st : Stream} {pg : PageState}

theorem Timed.intro (head : HeadEntry d st) (silence : entryIff (d .silence) st.measured)
    (age : entryIff (d .age) (st.aged pg)) : Timed d st pg := ⟨head, silence, age⟩

variable (h : Timed d st pg)
include h

theorem Timed.head : HeadEntry d st := h.1

theorem Timed.silence : entryIff (d .silence) st.measured := h.2.1

theorem Timed.age : entryIff (d .age) (st.aged pg) := h.2.2

theorem Timed.head_of_runs (runs : st.headRuns) : d .head = some st.headDeadline := (h.head _).2 ⟨runs, rfl⟩

theorem Timed.head_of_not (runs : ¬ st.headRuns) : d .head = none :=
  Option.eq_none_iff_forall_ne_some.2 (fun due e => runs ((h.head due).1 e).1)

end

/-- At most one entry for each stream and kind; given p, the entries of every stream but n stand as the law asks, and
those of n, the stream and its pages have the property q. -/
def State.At (p : Prop) (n : StreamId) (q : (DeadlineKind → Option Word) → Stream → PageState → Prop) (s : State) : Prop :=
  s.deadlinesUnique ∧ (p → (∀ m, m ≠ n → s.meets m Timed) ∧ s.meets n q)

section
variable {n : StreamId} {p : Prop} {s : State} {q q' : (DeadlineKind → Option Word) → Stream → PageState → Prop}

/-- What the law speaks of is all that matters. -/
theorem State.At.of_face {t : State} (h : s.At p n q) (e : t.face = s.face) : t.At p n q :=
  (congrArg (fun f : List Deadline × Vector Stream 64 × Vector PageState 64 => keysUnique f.1
    ∧ (p → (∀ m : StreamId, m ≠ n → Timed (dueOf f.1 m) f.2.1[m.val] f.2.2[m.val])
      ∧ q (dueOf f.1 n) f.2.1[n.val] f.2.2[n.val])) e).mpr h

theorem State.At.timed (h : s.At p n Timed) (hp : p) (m : StreamId) : s.meets m Timed :=
  Classical.byCases (fun e : m = n => e ▸ (h.2 hp).2) ((h.2 hp).1 m)

/-- At most one entry for each stream and kind; given p, every stream's entries stand as the law asks. -/
def State.Scheduled (p : Prop) (s : State) : Prop := s.At p 0 Timed

theorem State.Scheduled.at (h : s.Scheduled p) (n : StreamId) : s.At p n Timed :=
  ⟨h.1, fun hp => ⟨fun m _ => State.At.timed h hp m, State.At.timed h hp n⟩⟩

theorem State.At.scheduled (h : s.At p n Timed) : s.Scheduled p := ⟨h.1, fun hp => ⟨fun m _ => h.timed hp m, h.timed hp 0⟩⟩

/-- The law of the Deadline Queue, stream by stream. -/
theorem State.deadlineLaw_iff (s : State) : s.deadlineLaw ↔ s.Scheduled True :=
  have measured (n : StreamId) := and_congr_left' (c := (s.stream n).config.silence ≠ 0)
    (StreamState.silenceRuns_iff (s.stream n).state)
  have timed (h : s.deadlineLaw) (n : StreamId) : s.meets n Timed :=
    .intro (h.head n) ((h.silence n).trans (measured n).symm) (h.age n)
  ⟨fun h => ⟨h.unique, fun _ => ⟨fun m _ => timed h m, timed h 0⟩⟩,
    fun h => ⟨h.1, fun n => (State.At.timed h trivial n).head, fun n => (State.At.timed h trivial n).silence.trans (measured n),
      fun n => (State.At.timed h trivial n).age⟩⟩

theorem State.At.given (h : s.At p n q) (hq : s.meets n q → s.meets n q') : s.At p n q' :=
  ⟨h.1, fun hp => (h.2 hp).imp_right hq⟩

theorem State.At.weaken (h : s.At p n q) (hq : ∀ d st pg, q d st pg → q' d st pg) : s.At p n q' := h.given (hq _ _ _)

theorem State.At.setStream (h : s.At p n q) (st : Stream) (hq : ∀ d pg, q d (s.stream n) pg → q' d st pg) :
    (s.setStream n st).At p n q' :=
  ⟨h.1, fun hp => ⟨fun m hm => (congrArg (Timed (s.deadline m) · (s.page m)) (s.stream_setStream_ne n m st hm)).mpr ((h.2 hp).1 m hm),
    (congrArg (q' (s.deadline n) · (s.page n)) (s.stream_setStream_self n st)).mpr (hq _ _ (h.2 hp).2)⟩⟩

theorem State.At.modStream (h : s.At p n q) (f : Stream → Stream) (hq : ∀ d st pg, q d st pg → q' d (f st) pg) :
    (s.modStream n f).At p n q' := h.setStream _ (fun d => hq d _)

theorem State.At.setPage (h : s.At p n q) (pg : PageState) (hq : ∀ d st, q d st (s.page n) → q' d st pg) :
    (s.setPage n pg).At p n q' :=
  ⟨h.1, fun hp => ⟨fun m hm => (congrArg (Timed (s.deadline m) (s.stream m)) (s.page_setPage_ne n m pg hm)).mpr ((h.2 hp).1 m hm),
    (congrArg (q' (s.deadline n) (s.stream n)) (s.page_setPage_self n pg)).mpr (hq _ _ (h.2 hp).2)⟩⟩

theorem State.At.modPage (h : s.At p n q) (f : PageState → PageState) (hq : ∀ d st pg, q d st pg → q' d st (f pg)) :
    (s.modPage n f).At p n q' := h.setPage _ (fun d st => hq d st _)

/-- A change of the stream that the property does not see. -/
theorem State.At.touch (h : s.At p n q) (f : Stream → Stream)
    (hq : ∀ d st pg, q d st pg → q d (f st) pg) : (s.modStream n f).At p n q := h.modStream f hq

/-- The entry of a stream and kind is set: to an entry by an arming, to none by a cancel (R45, R46). -/
theorem State.At.setEntry {l : List Deadline} (h : s.At p n q) {k : DeadlineKind} {o : Option Word}
    (hq : ∀ d pg, q d (s.stream n) pg → q' (Function.update d k o) (s.stream n) pg) (unique : keysUnique l)
    (self : dueOf l n k = o) (ne : ∀ m j, ¬ (m = n ∧ j = k) → dueOf l m j = s.deadline m j) :
    (s.setDeadlines l).At p n q' :=
  ⟨unique, fun hp => ⟨fun m hm => (congrArg (Timed · (s.stream m) (s.page m)) (funext fun j => ne m j (fun e => hm e.1))).mpr
      ((h.2 hp).1 m hm),
    (congrArg (q' · (s.stream n) (s.page n)) (Function.eq_update_iff.2 ⟨self, fun j hj => ne n j (fun e => hj e.2)⟩)).mpr
      (hq _ _ (h.2 hp).2)⟩⟩

theorem State.At.arm (h : s.At p n q) (k : DeadlineKind) (due : Word)
    (hq : ∀ d pg, q d (s.stream n) pg → q' (Function.update d k (some due)) (s.stream n) pg) : (s.arm n k due).At p n q' :=
  h.setEntry hq (keysUnique_armDeadlineIn n k due h.1) (s.deadline_arm_self n k due) (fun _ _ => s.deadline_arm_ne due)

theorem State.At.cancel (h : s.At p n q) (k : DeadlineKind)
    (hq : ∀ d st pg, q d st pg → q' (Function.update d k none) st pg) : (s.cancel n k).At p n q' :=
  h.setEntry (fun d => hq d _) (keysUnique_removeDeadline n k h.1) (s.deadline_cancel_self n k) (fun _ _ => s.deadline_cancel_ne)

section
variable (h : s.At p n q)
include h

theorem State.At.port (x : Port) : State.At p n q { s with port := x } := h

theorem State.At.store (x : BurstStore) : State.At p n q { s with store := x } := h

theorem State.At.lane (x : Lane) : State.At p n q { s with lane := x } := h

theorem State.At.walker (x : Walker) : State.At p n q { s with walker := x } := h

theorem State.At.tally (x : Tally) : State.At p n q { s with tally := x } := h

theorem State.At.raiseIf (c : Bool) (b : BitVec 7) : (s.raiseIf c b).At p n q := by cases c <;> exact h

end

theorem State.At.changeState (h : s.At p n q) (target : StreamState)
    (hq : ∀ d st pg c, q d st pg → q' d { st with state := target, changed := c } pg) :
    (s.changeState n target).At p n q' := by
  by_cases same : (s.stream n).state = target
  · rw [State.changeState, if_pos same]
    exact h.given (fun m => (congrArg (fun x => q' (s.deadline n)
      { s.stream n with state := x, changed := (s.stream n).changed } (s.page n)) same).mpr (hq _ _ _ _ m))
  · rw [State.changeState, if_neg same]
    exact (h.modStream _ (fun _ _ _ => hq _ _ _ true)).tally _

theorem State.At.ite {c : Prop} [Decidable c] {a b : State} (ha : c → a.At p n q) (hb : ¬ c → b.At p n q) :
    (if c then a else b).At p n q := by
  split
  · exact ha ‹_›
  · exact hb ‹_›

end

/-! ### Entries that stand and entries that do not -/

theorem entryIff_none {o : Option Word} {c : Prop} (e : o = none) (h : ¬ c) : entryIff o c :=
  ⟨fun ho => ho.elim (fun due h => absurd (h.symm.trans e) (Option.some_ne_none due)), fun hc => absurd hc h⟩

theorem entryIff_some {o : Option Word} {c : Prop} {due : Word} (e : o = some due) (h : c) : entryIff o c :=
  ⟨fun _ => h, fun _ => ⟨due, e⟩⟩

theorem entryIff.none {o : Option Word} {c : Prop} (e : entryIff o c) (h : ¬ c) : o = none :=
  Option.eq_none_iff_forall_ne_some.2 (fun due ho => h (e.1 ⟨due, ho⟩))

/-- The HEAD entry is the one the law asks for. -/
theorem headEntry_some {o : Option Word} {c : Prop} {x : Word} (e : o = some x) (h : c) (due : Word) :
    o = some due ↔ c ∧ due = x :=
  ⟨fun ho => ⟨h, Option.some.inj (ho.symm.trans e)⟩, fun hd => e.trans (congrArg some hd.2.symm)⟩

theorem headEntry_none {o : Option Word} {c : Prop} {x : Word} (e : o = none) (h : ¬ c) (due : Word) :
    o = some due ↔ c ∧ due = x :=
  ⟨fun ho => absurd (ho.symm.trans e) (Option.some_ne_none due), fun hd => absurd hd.1 h⟩

/-- A stream that has neither a HEAD nor a SILENCE entry: CLOSED, or DRAINING with an empty window. -/
def Stream.wound (st : Stream) : Prop := st.state = .closed ∨ (st.state = .draining ∧ ∀ x ∈ st.window, x = none)

theorem Stream.not_headRuns {st : Stream} (running : st.state ≠ .running)
    (draining : st.state = .draining → ∀ x ∈ st.window, x = none) : ¬ st.headRuns :=
  fun h => h.elim running (fun hd => hd.2.elim (fun b hb => Option.some_ne_none b (draining hd.1 _ hb)))

theorem Stream.not_headRuns_of {st : Stream} {x : StreamState} (e : st.state = x) (h : x ≠ .running ∧ x ≠ .draining) :
    ¬ st.headRuns := st.not_headRuns (e ▸ h.1) (fun d => absurd (e.symm.trans d) h.2)

theorem Stream.not_measured {st : Stream} (h : st.state.silenceRuns = false) : ¬ st.measured :=
  fun m => Bool.false_ne_true (h.symm.trans m.1)

theorem Stream.wound.still {st : Stream} (h : st.wound) : ¬ st.headRuns ∧ ¬ st.measured := by
  obtain state | ⟨state, empty⟩ := h
  · exact ⟨Stream.not_headRuns_of state (by decide), st.not_measured (congrArg _ state)⟩
  · exact ⟨st.not_headRuns (state ▸ (by decide)) (fun _ => empty), st.not_measured (congrArg _ state)⟩

end Sys2Proof.Machine
end

section
/-! SUPPORT. The closing sequence and the Stream Engine keep the entries of a stream as the law asks. -/

namespace Sys2Proof.Machine

open Sys2Proof

/-! ### The closing sequence -/

/-- The entries stand as the law asks, and the stream has neither a HEAD nor a SILENCE entry. -/
def Winding (d : DeadlineKind → Option Word) (st : Stream) (pg : PageState) : Prop := Timed d st pg ∧ st.wound

/-- Neither HEAD nor SILENCE stands, and AGE stands as the law asks. -/
def OnlyAge (d : DeadlineKind → Option Word) (st : Stream) (pg : PageState) : Prop :=
  d .head = none ∧ d .silence = none ∧ entryIff (d .age) (st.aged pg)

section
variable {d : DeadlineKind → Option Word} {st : Stream} {pg : PageState}

theorem OnlyAge.winding (h : OnlyAge d st pg) (wound : st.wound) : Winding d st pg :=
  ⟨.intro (headEntry_none h.1 wound.still.1) (entryIff_none h.2.1 wound.still.2) h.2.2, wound⟩

theorem Winding.onlyAge (h : Winding d st pg) : OnlyAge d st pg :=
  ⟨h.1.head_of_not h.2.still.1, h.1.silence.none h.2.still.2, h.1.age⟩

theorem not_aged_of_none (h : pg.current = none) : ¬ st.aged pg :=
  fun ha => ha.1.elim (fun p hp => Option.some_ne_none p (hp.1.symm.trans h))

end

section
variable {n : StreamId} {p : Prop} {s : State}

/-- HEAD and SILENCE stand as the law asks, and the stream has the property e. -/
def ButAge (e : Stream → Prop) (d : DeadlineKind → Option Word) (st : Stream) : Prop :=
  HeadEntry d st ∧ entryIff (d .silence) st.measured ∧ e st

/-- The page that was current leaves with its AGE entry (R86). -/
theorem State.At.beginPageClose {e : Stream → Prop}
    (h : s.At p n (fun d st pg => ButAge e d st ∧ (pg.current = none → entryIff (d .age) (st.aged pg))))
    (reason : CloseReason) (w i : Bool) : (s.beginPageClose n reason w i).At p n (fun d st pg => Timed d st pg ∧ e st) := by
  delta State.beginPageClose
  generalize hc : (s.page n).current = o
  induction o
  case some =>
    exact (h.modPage (q' := fun d st pg => ButAge e d st ∧ pg.current = none) _ (fun _ _ _ m => ⟨m.1, rfl⟩)).cancel .age
      (fun _ _ _ m => ⟨.intro m.1.1 m.1.2.1 (entryIff_none rfl (not_aged_of_none m.2)), m.1.2.2⟩)
  case none => exact h.given (fun m => ⟨.intro m.1.1 m.1.2.1 (m.2 hc), m.1.2.2⟩)

theorem State.At.closePage (h : s.At p n Timed) (reason : CloseReason) (w i : Bool) :
    (s.beginPageClose n reason w i).At p n Timed :=
  (State.At.beginPageClose (e := fun _ => True) (h.weaken (fun _ _ _ m => ⟨⟨m.head, m.silence, trivial⟩, fun _ => m.age⟩))
    reason w i).weaken (fun _ _ _ => And.left)

theorem State.At.closeStep4 (h : s.At p n Winding) (k : Nat) : (s.closeStep4 n k).At p n Winding :=
  (((h.store _).touch _ (fun _ _ _ => by exact id)).changeState .closed (fun _ _ _ _ m =>
    OnlyAge.winding m.onlyAge (.inl rfl))).walker _

theorem State.At.closeStep3 (h : s.At p n Winding) : (s.closeStep3 n).At p n Winding :=
  .ite (fun _ => h.closeStep4 0) (fun _ => h.touch _ (fun _ _ _ => by exact id))

theorem State.At.closeStep2 (h : s.At p n Winding) (reason : CloseReason) : (s.closeStep2 n reason).At p n Winding := by
  delta State.closeStep2
  generalize (s.page n).closingPage = x
  induction x
  case some => exact (h.modPage (q' := Winding) _ (fun _ _ _ => by exact id)).touch _ (fun _ _ _ => by exact id)
  case none =>
    generalize (s.page n).current = x
    induction x
    case none => exact (h.touch _ (fun _ _ _ => by exact id)).closeStep3
    case some =>
      exact State.At.touch (State.At.beginPageClose (e := Stream.wound) (h.weaken (fun _ _ _ m =>
        ⟨⟨m.1.head, m.1.silence, m.2⟩, fun _ => m.1.age⟩)) _ _ _) _ (fun _ _ _ => by exact id)

theorem State.At.beginClosing (h : s.At p n Winding) (reason : CloseReason) : (s.beginClosing n reason).At p n Winding :=
  have begun := h.touch _ (fun _ _ _ => by exact id)
  .ite (fun _ => begun) (fun _ => begun.closeStep2 reason)

theorem State.At.testDrained (h : s.At p n Timed) : (s.testDrained n).At p n Timed :=
  .ite (fun hd => (State.At.beginClosing (h.given (fun m => ⟨m, .inr ⟨hd.1, (windowEmpty_iff _).1 hd.2.2.1⟩⟩))
    .close).weaken (fun _ _ _ => And.left)) (fun _ => h)

/-- The entries stand as the law asks, and a stream in its closing sequence has neither HEAD nor SILENCE (R13). -/
def StillClosing (d : DeadlineKind → Option Word) (st : Stream) (pg : PageState) : Prop :=
  Timed d st pg ∧ (st.closing ≠ none → st.wound)

theorem State.At.laneDone (h : s.At p n StillClosing) : (s.laneDone n).At p n Timed := by
  delta State.laneDone
  generalize hc : (s.stream n).closing = o
  induction o
  case none => exact h.weaken (fun _ _ _ => And.left)
  rename_i c
  dsimp only
  have winding := h.given (q' := Winding) (fun m => ⟨m.1, m.2 (hc ▸ Option.some_ne_none _)⟩)
  generalize c.phase = x
  induction x
  case waitLane => exact (winding.closeStep2 _).weaken (fun _ _ _ => And.left)
  all_goals exact h.weaken (fun _ _ _ => And.left)

theorem State.At.closeDone (h : s.At p n StillClosing) : (s.closeDone n).At p n Timed := by
  delta State.closeDone
  generalize hc : (s.stream n).closing = o
  induction o
  case none => exact h.weaken (fun _ _ _ => And.left)
  rename_i c
  dsimp only
  have winding := h.given (q' := Winding) (fun m => ⟨m.1, m.2 (hc ▸ Option.some_ne_none _)⟩)
  generalize c.phase = x
  induction x
  case waitLane => exact (winding.closeStep2 _).weaken (fun _ _ _ => And.left)
  case waitClose => exact winding.closeStep3.weaken (fun _ _ _ => And.left)
  all_goals exact h.weaken (fun _ _ _ => And.left)

theorem Stream.countFlushed_keeps (q : Stream → Prop) {k : Nat} {st : Stream}
    (h : ∀ c x, q { st with counters := c, changed := x }) : q (st.countFlushed k) :=
  (congrArg q (Stream.countFlushed_eq k st)).mpr (h _ _)

/-- A window flush empties the slots, and counts (R8). -/
theorem State.At.flushWindow {q q' : (DeadlineKind → Option Word) → Stream → PageState → Prop} (h : s.At p n q)
    (hq : ∀ d st pg c x, q d st pg → q' d { st with window := st.window.map (fun _ => none), counters := c, changed := x } pg) :
    (s.flushWindow n).At p n q' := by
  refine (h.modStream _ ?_).store _
  exact fun d st pg m => Stream.countFlushed_keeps (q' d · pg) (fun c x => hq d st pg c x m)

theorem eq_none_of_mem_map {w : List (Option Burst)} : ∀ x ∈ w.map (fun _ => (none : Option Burst)), x = none :=
  fun _ hx => (List.mem_map.1 hx).elim (fun _ e => e.2.symm)

/-- The window is empty, and the AGE entry stands as the law asks. -/
def Flushed (d : DeadlineKind → Option Word) (st : Stream) (pg : PageState) : Prop :=
  entryIff (d .age) (st.aged pg) ∧ ∀ x ∈ st.window, x = none

/-- An immediate close cancels HEAD and SILENCE and flushes the window (R11). -/
theorem State.At.closeNow (h : s.At p n Timed) (reason : CloseReason) : (s.closeNow n reason).At p n Timed := by
  have emptied : ((s.flushWindow n).flushQueue n).At p n Flushed := by
    refine ((h.flushWindow (q' := Flushed) (fun _ _ _ _ _ m => ⟨m.age, eq_none_of_mem_map⟩)).modStream _ ?_).store _
    exact fun d _ pg m => Stream.countFlushed_keeps (Flushed d · pg) (fun _ _ => m)
  exact ((((emptied.cancel (q' := fun d st pg => d .head = none ∧ Flushed d st pg) .head (fun _ _ _ m => ⟨rfl, m⟩)).cancel
    (q' := fun d st pg => OnlyAge d st pg ∧ ∀ x ∈ st.window, x = none) .silence (fun _ _ _ m =>
      ⟨⟨m.1, rfl, m.2.1⟩, m.2.2⟩)).changeState .draining (fun _ _ _ _ m => OnlyAge.winding m.1
        (.inr ⟨rfl, m.2⟩))).beginClosing reason).weaken (fun _ _ _ => And.left)

/-! ### The HEAD expiry -/

/-- HEAD has left the queue, and the other entries stand as the law asks. -/
def HeadTaken (d : DeadlineKind → Option Word) (st : Stream) (pg : PageState) : Prop :=
  d .head = none ∧ entryIff (d .silence) st.measured ∧ entryIff (d .age) (st.aged pg)

theorem HeadTaken.timed {d : DeadlineKind → Option Word} {st : Stream} {pg : PageState} (h : HeadTaken d st pg)
    (head : HeadEntry d st) : Timed d st pg := .intro head h.2.1 h.2.2

/-- A RUNNING or DRAINING stream that goes on after its HEAD entry expired. -/
def GoesOn (d : DeadlineKind → Option Word) (st : Stream) (pg : PageState) : Prop :=
  HeadTaken d st pg ∧ (st.state = .running ∨ st.state = .draining)

/-- HEAD is armed at the head deadline (R61). -/
theorem State.At.armHead (h : s.At p n GoesOn)
    (held : (s.stream n).state = .draining → ∃ b, some b ∈ (s.stream n).window) :
    (s.arm n .head (s.stream n).headDeadline).At p n Timed :=
  h.arm .head _ (fun _ _ m => ⟨headEntry_some rfl (m.2.imp_right (fun hd => ⟨hd, held hd⟩)), m.1.2⟩)

theorem State.At.offerRecord (h : s.At p n GoesOn) (x : QueueRecord) : (s.offerRecord n x).At p n GoesOn :=
  .ite (fun _ => h.touch _ (fun _ _ _ => by exact id)) (fun _ => (h.touch _ (fun _ _ _ => by exact id)).store _)

theorem exists_of_not_windowEmpty {w : List (Option Burst)} (h : ¬ windowEmpty w = true) : ∃ b, some b ∈ w :=
  Classical.by_contradiction (fun hn => h ((windowEmpty_iff w).2 (fun _ hx =>
    Option.eq_none_iff_forall_ne_some.2 (fun b e => hn ⟨b, e ▸ hx⟩))))

/-- HEAD is armed at the head deadline, but for a DRAINING stream with an empty window (R61, R66). -/
theorem State.At.rearmHead (h : s.At p n GoesOn) : (s.rearmHead n).At p n Timed :=
  .ite (fun hd => State.At.testDrained (h.given (fun m => m.1.timed (headEntry_none m.1.1 (Stream.wound.still
      (.inr ⟨hd.1, (windowEmpty_iff _).1 hd.2⟩)).1))))
    (fun hn => h.armHead (fun hd => exists_of_not_windowEmpty (fun he => hn ⟨hd, he⟩)))

end

end Sys2Proof.Machine
end

section
/-! SUPPORT. The expiries and the offers keep the entries of a stream as the law asks. -/

namespace Sys2Proof.Machine

open Sys2Proof

/-! ### The HEAD expiry -/

/-- What an operation that may find no buffer leads to, if it does. -/
def State.AllAt (p : Prop) (n : StreamId) (q : (DeadlineKind → Option Word) → Stream → PageState → Prop)
    (o : Option State) : Prop := o.elim True (State.At p n q)

section
variable {n : StreamId} {p : Prop} {s : State} {q : (DeadlineKind → Option Word) → Stream → PageState → Prop}

theorem State.AllAt.ite {c : Prop} [Decidable c] {a b : Option State} (ha : c → State.AllAt p n q a)
    (hb : ¬ c → State.AllAt p n q b) : State.AllAt p n q (if c then a else b) := by
  split
  · exact ha ‹_›
  · exact hb ‹_›

theorem State.At.releaseData (h : s.At p n GoesOn) (due : Word) (b : Burst) : (s.releaseData n due b).At p n Timed :=
  State.At.rearmHead (State.At.touch (State.At.offerRecord (h.touch _ (fun _ _ _ => by exact id)) _) _ (fun _ _ _ => by exact id))

/-- A claim fills a buffer: no stream and no entry changes. -/
theorem State.face_claim (s : State) (l : List Half) : (s.claim l).elim True (fun x => x.2.face = s.face) := by
  delta State.claim
  generalize s.store.pool = x
  induction x
  case nil => exact trivial
  case cons => exact @rfl _ s.face

theorem State.face_makeFill (s : State) (n : StreamId) (due : Word) :
    (s.makeFill n due).elim True (fun x => x.2.face = s.face) := by
  delta State.makeFill
  dsimp only
  generalize (s.stream n).config.fillPolicy = x
  induction x
  case repeatStore =>
    dsimp only
    split
    · exact @rfl _ s.face
    · have claimed := s.face_claim (s.stream n).repeatStore
      split
      · rename_i hc
        rw [hc] at claimed
        exact claimed
      · exact trivial
  all_goals exact @rfl _ s.face

theorem State.At.releaseFill (h : s.At p n GoesOn) (due : Word) : State.AllAt p n Timed (s.releaseFill n due) := by
  have filled := s.face_makeFill n due
  delta State.releaseFill
  generalize s.makeFill n due = o at filled
  induction o
  case none => exact trivial
  case some => exact State.At.rearmHead (State.At.touch (State.At.offerRecord (State.At.touch (h.of_face filled) _
    (fun _ _ _ => by exact id)) _) _ (fun _ _ _ => by exact id))

/-- After a skip-ahead to the lowest occupied slot the window is not empty (R62). -/
theorem exists_of_skipped {w : List (Option Burst)} {k : Nat} (h : lowestOccupied w = some k)
    (l : List (Option Burst)) : ∃ b, some b ∈ w.drop k ++ l := by
  obtain ⟨hk, held, -⟩ := List.findIdx?_eq_some_iff_getElem.1 h
  obtain ⟨b, hb⟩ := Option.isSome_iff_exists.1 held
  exact ⟨b, List.mem_append_left _ (List.drop_eq_getElem_cons hk ▸ hb ▸ List.mem_cons_self)⟩

theorem State.At.skipAhead (h : s.At p n GoesOn) (due : Word) {k : Nat} (e : lowestOccupied (s.stream n).window = some k) :
    (s.skipAhead n due k).At p n Timed := by
  refine State.At.armHead (h.touch _ (fun _ _ _ => by exact id)) (fun _ => ?_)
  rw [State.stream_modStream_self]
  exact exists_of_skipped e _

/-- Without a HEAD entry, in a state that asks for none. -/
theorem State.At.headless (h : s.At p n HeadTaken) (runs : ¬ (s.stream n).headRuns) : s.At p n Timed :=
  h.given (fun m => m.timed (headEntry_none m.1 runs))

theorem State.At.stall (h : s.At p n HeadTaken) (state : (s.stream n).state = .running) : (s.stall n).At p n Timed :=
  State.At.raiseIf (State.At.touch ((h.given (q' := fun d st pg => HeadTaken d st pg ∧ st.state = .running) (fun m =>
    ⟨m, state⟩)).changeState .stalled (fun _ st _ _ m => ⟨headEntry_none m.1.1 (Stream.not_headRuns_of (x := .stalled) rfl
      (by decide)), m.1.2.1.trans (and_congr_left' (m.2 ▸ Iff.rfl)), m.1.2.2⟩)) _ (fun _ _ _ => by exact id)) _ _

/-- A HEAD expiry: the entry has left the queue, and the stream arms the next one it asks for (R55, R66). -/
theorem State.At.headExpiry (h : s.At p n HeadTaken) (due : Word) : State.AllAt p n Timed (s.headExpiry n due) := by
  have goesOn (state : (s.stream n).state = .running ∨ (s.stream n).state = .draining) : s.At p n GoesOn :=
    h.given (fun m => ⟨m, state⟩)
  delta State.headExpiry
  dsimp only
  generalize state : (s.stream n).state = x at goesOn
  generalize low : lowestOccupied (s.stream n).window = o
  induction x
  case running =>
    dsimp only
    generalize slot0 (s.stream n).window = x
    induction x
    case some => exact (goesOn (.inl rfl)).releaseData _ _
    case none =>
      refine State.AllAt.ite (fun _ => (goesOn (.inl rfl)).releaseFill _) (fun _ => ?_)
      induction o
      case some => exact (goesOn (.inl rfl)).skipAhead _ low
      case none => exact h.stall state
  case draining =>
    dsimp only
    generalize slot0 (s.stream n).window = x
    induction x
    case some => exact (goesOn (.inr rfl)).releaseData _ _
    case none =>
      induction o
      case some => exact (goesOn (.inr rfl)).skipAhead _ low
      case none => exact h.headless (Stream.wound.still (.inr ⟨state, lowestOccupied_eq_none low⟩)).1
  all_goals exact h.headless (Stream.not_headRuns_of state (by decide))

/-! ### The SILENCE and AGE expiries -/

/-- SILENCE has left the queue, and AGE stands as the law asks. -/
def Unheard (d : DeadlineKind → Option Word) (st : Stream) (pg : PageState) : Prop :=
  d .silence = none ∧ entryIff (d .age) (st.aged pg)

/-- A cut cancels HEAD, and the state CUT asks for no entry but AGE (R70). -/
theorem State.At.cutStream (h : s.At p n Unheard) : (s.cutStream n).At p n Timed :=
  State.At.raiseIf (State.At.touch (((h.flushWindow (q' := Unheard) (fun _ _ _ _ _ => by exact id)).cancel (q' := OnlyAge) .head
    (fun _ _ _ m => ⟨rfl, m⟩)).changeState .cut (fun _ _ _ _ m => ⟨headEntry_none m.1 (Stream.not_headRuns_of (x := .cut) rfl
      (by decide)), entryIff_none m.2.1 (Stream.not_measured rfl), m.2.2⟩)) _ (fun _ _ _ => by exact id)) _ _

/-- A SILENCE expiry: the entry has left the queue, and the stream is cut if it is measured (R70). -/
theorem State.At.silenceExpiry (h : s.At p n Timed) : ((s.cancel n .silence).silenceExpiry n).At p n Timed := by
  have cancelled : (s.cancel n .silence).At p n Unheard := h.cancel .silence (fun _ _ _ m => ⟨rfl, m.2.2⟩)
  have stays (e : ((s.cancel n .silence).stream n).state.silenceRuns = false) : (s.cancel n .silence).At p n Timed :=
    State.At.given (h.cancel (q' := fun d st pg => HeadEntry d st ∧ Unheard d st pg) .silence (fun _ _ _ m =>
      ⟨m.1, rfl, m.2.2⟩)) (fun m => ⟨m.1, entryIff_none m.2.1 (Stream.not_measured e), m.2.2⟩)
  delta State.silenceExpiry
  generalize ((s.cancel n .silence).stream n).state = x at stays
  induction x
  case acquiring | running | stalled => exact cancelled.cutStream
  all_goals exact stays rfl

/-- An AGE expiry: the entry has left the queue, and the page it stood for goes with it (R90). -/
theorem State.At.ageExpiry (h : s.At p n Timed) (reason : CloseReason) (w i : Bool) :
    ((s.cancel n .age).beginPageClose n reason w i).At p n Timed :=
  (State.At.beginPageClose (e := fun _ => True) (h.cancel .age (fun _ _ _ m =>
    ⟨⟨m.1, m.2.1, trivial⟩, fun hc => entryIff_none rfl (not_aged_of_none hc)⟩)) reason w i).weaken (fun _ _ _ => And.left)

/-! ### The offers -/

/-- The SILENCE entry may be armed; HEAD and the stream stand as e says. -/
def Quiet (e : Option Word → StreamState → Word → Prop) (d : DeadlineKind → Option Word) (st : Stream) (pg : PageState) : Prop :=
  (st.config.silence = 0 → d .silence = none) ∧ entryIff (d .age) (st.aged pg) ∧ e (d .head) st.state st.headDeadline

/-- SILENCE is armed exactly when the silence period is nonzero. -/
def Measuring (e : Option Word → StreamState → Word → Prop) (d : DeadlineKind → Option Word) (st : Stream) (pg : PageState) : Prop :=
  entryIff (d .silence) (st.config.silence ≠ 0) ∧ entryIff (d .age) (st.aged pg) ∧ e (d .head) st.state st.headDeadline

theorem State.At.armSilence {e : Option Word → StreamState → Word → Prop} (h : s.At p n (Quiet e)) (t : Word) :
    (s.armSilence n t).At p n (Measuring e) :=
  .ite (fun z => h.given (fun m => ⟨entryIff_none (m.1 z) (not_not.2 z), m.2⟩))
    (fun z => h.arm .silence _ (fun _ _ m => ⟨entryIff_some rfl z, m.2⟩))

section
variable {d : DeadlineKind → Option Word} {st : Stream} {pg : PageState}

theorem Timed.quiet {e : Option Word → StreamState → Word → Prop} (h : Timed d st pg) (he : e (d .head) st.state st.headDeadline) :
    Quiet e d st pg := ⟨fun z => h.2.1.none (fun m => m.2 z), h.2.2, he⟩

/-- Measuring in a state that is measured. -/
theorem Measuring.timed {e : Option Word → StreamState → Word → Prop} {c : Bool} (h : Measuring e d st pg) {x : StreamState}
    (measured : x.silenceRuns = true) (head : ∀ due, d .head = some due ↔
      ({ st with state := x, changed := c } : Stream).headRuns ∧ due = st.headDeadline) :
    Timed d { st with state := x, changed := c } pg :=
  ⟨head, h.1.trans (iff_and_self.2 (fun _ => measured)), h.2.1⟩

theorem Timed.countAnchoring (h : Timed d st pg) : Timed d st.countAnchoring pg := by
  delta Stream.countAnchoring
  split
  iterate 2 exact h

end

/-- A burst placed leaves alone what the law speaks of, but for the window (R31, R34). -/
theorem State.At.placeBurst {e : Option Word → StreamState → Word → Prop} (h : s.At p n (Quiet e))
    (o : Nat) (f : Frame) (l : LinkId) : State.AllAt p n (Quiet e) (s.placeBurst n o f l) := by
  have claimed := s.face_claim f.samples
  delta State.placeBurst
  generalize s.claim f.samples = x at claimed
  induction x
  case none => exact trivial
  case some =>
    refine (h.of_face claimed).touch _ (fun _ st _ m => ?_)
    rw [Stream.noteMargin_eq]
    exact m

/-- HEAD stands at the head deadline. -/
def Counting (o : Option Word) (_ : StreamState) (due : Word) : Prop := o = some due

theorem State.At.storeBurst (h : s.At p n Timed) (state : (s.stream n).state = .running) (o : Nat)
    (f : Frame) (l : LinkId) : State.AllAt p n Timed (s.storeBurst n o f l) := by
  have placed := (h.given (q' := Quiet (fun o x due => x = .running ∧ Counting o x due)) (fun m =>
    m.quiet ⟨state, m.head_of_runs (.inl state)⟩)).placeBurst o f l
  delta State.storeBurst
  generalize s.placeBurst n o f l = x at placed
  induction x
  case none => exact trivial
  case some => exact (State.At.armSilence placed _).weaken (fun _ _ _ m =>
    ⟨headEntry_some m.2.2.2 (.inl m.2.2.1), m.1.trans (iff_and_self.2 (fun _ => congrArg _ m.2.2.1)), m.2.1⟩)

theorem State.At.anchor (h : s.At p n Timed) (f : Frame) (l : LinkId) : State.AllAt p n Timed (s.anchor n f l) := by
  have placed := State.At.placeBurst (e := fun _ _ _ => True) (h.modStream (fun st => { st with
    head := f.sequence, headDeadline := s.time.tick + st.config.d, fillsInRow := 0 }) (fun _ _ _ m =>
      ⟨fun z => m.2.1.none (fun x => x.2 z), m.2.2, trivial⟩)) 0 f l
  delta State.anchor
  dsimp only
  generalize State.placeBurst _ _ _ _ _ = x at placed
  induction x
  case none => exact trivial
  case some =>
    exact (State.At.changeState (State.At.armSilence (State.At.arm (q' := Quiet Counting) placed .head _ (fun _ _ m =>
      ⟨m.1, m.2.1, rfl⟩)) _) .running (fun _ _ _ _ m => m.timed rfl (headEntry_some m.2.2 (.inl rfl)))).modStream _
        (fun _ _ _ => Timed.countAnchoring)

theorem State.At.offerToWaiting (h : s.At p n Timed) (f : Frame) (l : LinkId) :
    State.AllAt p n Timed (s.offerToWaiting n f l) :=
  .ite (fun _ => h.touch _ (fun _ _ _ => by exact id)) (fun _ => h.anchor f l)

/-- A resync flushes the window of a RUNNING stream; it anchors anew, or goes ACQUIRING without HEAD (R33). -/
theorem State.At.resync (h : s.At p n Timed) (state : (s.stream n).state = .running) (f : Frame)
    (l : LinkId) : State.AllAt p n Timed (s.resync n f l) := by
  have flushed := (State.At.flushWindow (q' := fun d st pg => Timed d st pg ∧ st.state = .running)
    (h.given (q' := fun d st pg => Timed d st pg ∧ st.state = .running) (fun m => ⟨m, state⟩)) (fun _ _ _ _ _ m =>
      ⟨⟨headEntry_some (m.1.head_of_runs (.inl m.2)) (.inl m.2), m.1.2⟩, m.2⟩)).raiseIf
        ((s.flushWindow n).stream n).config.options.notifyAlarms causeAlarm
  exact .ite (fun _ => State.At.changeState (State.At.touch (flushed.cancel (q' := Measuring (fun o _ _ => o = none)) .head
      (fun _ _ _ m => ⟨m.1.2.1.trans (and_iff_right (congrArg _ m.2)), m.1.2.2, rfl⟩)) _ (fun _ _ _ => by exact id)) .acquiring (fun _ _ _ _ m =>
        m.timed rfl (headEntry_none m.2.2 (Stream.not_headRuns_of (x := .acquiring) rfl (by decide)))))
    (fun _ => State.At.anchor (flushed.weaken (fun _ _ _ => And.left)) f l)

theorem State.At.offerEarly (h : s.At p n Timed) (state : (s.stream n).state = .running) (f : Frame)
    (l : LinkId) : State.AllAt p n Timed (s.offerEarly n f l) := by
  have counted := h.touch (fun st => ({ st with earlyRun := earlyRunAfter st.earlyRun } : Stream).tally
    (fun c => { c with early := c.early + 1 })) (fun _ _ _ => by exact id)
  exact .ite (fun _ => counted) (fun _ => counted.resync (State.stream_modStream_self s n _ ▸ state) f l)

theorem State.At.takeOffer (h : s.At p n Timed) (f : Frame) (l : LinkId) : State.AllAt p n Timed (s.takeOffer n f l) := by
  delta State.takeOffer
  generalize state : (s.stream n).state = x
  induction x
  case closed | draining => exact h
  case acquiring | stalled | cut => exact h.offerToWaiting f l
  case running =>
    exact .ite (fun _ => .ite (fun _ => h.touch _ (fun _ _ _ => by exact id)) (fun _ => h.storeBurst state _ f l))
      (fun _ => .ite (fun _ => h.offerEarly state f l) (fun _ => h.touch _ (fun _ _ _ => by exact id)))

end

end Sys2Proof.Machine
end

section
/-! SUPPORT. The stream orders and the Delivery Engine keep the entries of a stream as the law asks. -/

namespace Sys2Proof.Machine

open Sys2Proof

section
variable {n : StreamId} {p : Prop} {s : State}

/-! ### Stream orders -/

/-- A CLOSED stream without a current page opens without an entry, but for its SILENCE entry (R6). -/
theorem State.At.openStream (h : s.At p n (fun d st pg => Winding d st pg ∧ pg.current = none)) (c : StreamConfig) :
    (s.openStream n c).At p n Timed :=
  have closed : s.At p n (fun d _ _ => d .head = none ∧ d .silence = none ∧ d .age = none) := h.weaken (fun _ _ _ m =>
    ⟨m.1.onlyAge.1, m.1.onlyAge.2.1, m.1.onlyAge.2.2.none (not_aged_of_none m.2)⟩)
  State.At.weaken (State.At.armSilence (e := fun o x _ => o = none ∧ x = .acquiring) (State.At.tally (State.At.setPage
    (State.At.modStream (q' := fun d st _ => (d .head = none ∧ d .silence = none ∧ d .age = none) ∧ st.state = .acquiring)
      (closed.store _) _ (fun _ _ _ m => ⟨m, rfl⟩)) _ (fun _ _ m => ⟨fun _ => m.1.2.1,
        entryIff_none m.1.2.2 (not_aged_of_none rfl), m.1.1, m.2⟩)) _) _) (fun _ _ _ m =>
    ⟨headEntry_none m.2.2.1 (Stream.not_headRuns_of m.2.2.2 (by decide)),
      m.1.trans (iff_and_self.2 (fun _ => congrArg _ m.2.2.2)), m.2.1⟩)

/-- Ready to drain: HEAD stands exactly when a burst is held, and SILENCE is cancelled (R9). -/
def DrainReady (d : DeadlineKind → Option Word) (st : Stream) (pg : PageState) : Prop :=
  (∀ due, d .head = some due ↔ (∃ b, some b ∈ st.window) ∧ due = st.headDeadline) ∧ d .silence = none
    ∧ entryIff (d .age) (st.aged pg)

/-- HEAD stands while a burst is held, and AGE as the law asks. -/
def HoldsHead (d : DeadlineKind → Option Word) (st : Stream) (pg : PageState) : Prop :=
  ((∃ b, some b ∈ st.window) → d .head = some st.headDeadline) ∧ entryIff (d .age) (st.aged pg)

theorem Stream.headRuns_of_draining (st : Stream) (c : Bool) :
    (∃ b, some b ∈ st.window) ↔ ({ st with state := .draining, changed := c } : Stream).headRuns :=
  ⟨fun hb => .inr ⟨rfl, hb⟩, fun hr => hr.elim (fun e => StreamState.noConfusion e) And.right⟩

/-- A drain cancels SILENCE, and on an empty window HEAD; only a RUNNING stream has a burst in its window (R9). -/
theorem State.At.drainClose (h : s.At p n HoldsHead) (ref : RecordRef) : (s.drainClose ref n).At p n Timed := by
  have taken := State.At.cancel (q' := fun d st pg => HoldsHead d st pg ∧ d .silence = none) (h.walker ({ s.walker with
    held := s.walker.held ++ [{ ref := ref, stream := n, takenWritten := false, settled := false }]
    activity := .taken ref (.drain n) })) .silence (fun _ _ _ m => ⟨m, rfl⟩)
  exact State.At.testDrained (State.At.changeState (q := DrainReady) (.ite
    (fun he => State.At.cancel (q := fun d st pg => (HoldsHead d st pg ∧ d .silence = none) ∧ ∀ x ∈ st.window, x = none)
      (taken.given (fun m => ⟨m, (windowEmpty_iff _).1 he⟩)) .head (fun _ _ _ m => ⟨headEntry_none rfl
        (fun hb => hb.elim (fun b hb => Option.some_ne_none b (m.2 _ hb))), m.1.2, m.1.1.2⟩))
    (fun he => taken.given (fun m => ⟨headEntry_some (m.1.1 (exists_of_not_windowEmpty he)) (exists_of_not_windowEmpty he),
      m.2, m.1.2⟩))) _ (fun _ _ _ _ m => ⟨fun due => (m.1 due).trans (and_congr_left' (Stream.headRuns_of_draining _ _)),
        entryIff_none m.2.1 (Stream.not_measured rfl), m.2.2⟩))

/-- A selected period cancels or arms the entry where it runs (R7). -/
theorem State.At.rearmBy {q q' : (DeadlineKind → Option Word) → Stream → PageState → Prop} (h : s.At p n q)
    {k : DeadlineKind} {runs : Bool} {v : Option Half} {old : Half}
    (hk : ∀ d st pg, q d st pg → entryIff (d k) (runs = true ∧ old ≠ 0))
    (hq : ∀ d st pg o, entryIff o (runs = true ∧ v.getD old ≠ 0) → q d st pg → q' (Function.update d k o) st pg) :
    (s.rearmBy n k runs v).At p n q' := by
  generalize hv : v.getD old = new at hq
  have stays (e : ∀ d st pg, q d st pg → entryIff (d k) (runs = true ∧ new ≠ 0)) : s.At p n q' :=
    h.weaken (fun d _ _ m => (congrArg (fun d => q' d _ _) (Function.update_eq_self k d)).mp (hq _ _ _ _ (e _ _ _ m) m))
  delta State.rearmBy
  induction v
  case none => exact stays (hv ▸ hk)
  case some v =>
    exact .ite (fun hr => .ite (fun z => h.cancel k (fun _ _ _ m => hq _ _ _ _ (entryIff_none rfl (fun c => c.2 (hv.symm.trans z))) m))
        (fun z => h.arm k _ (fun _ _ m => hq _ _ _ _ (entryIff_some rfl ⟨hr, fun e => z (hv.trans e)⟩) m)))
      (fun hr => stays (fun _ _ _ m => entryIff_none ((hk _ _ _ m).none (fun c => hr c.1)) (fun c => hr c.1)))

/-- HEAD as the law asks, when SILENCE and AGE stand, and when the law will ask for them. -/
def Altering (silence age silence' age' : Prop) (d : DeadlineKind → Option Word) (st : Stream) (pg : PageState) : Prop :=
  (HeadEntry d st ∧ (st.measured ↔ silence') ∧ (st.aged pg ↔ age')) ∧ entryIff (d .silence) silence ∧ entryIff (d .age) age

/-- An altered period and its entry change together (R7). -/
theorem State.At.alterStream (h : s.At p n Timed) (a : Alteration) : (s.alterStream n a).At p n Timed := by
  have start := h.given (q' := fun d st pg => Timed d st pg ∧ pg = s.page n) (fun m => ⟨m, rfl⟩)
  have altered := start.setStream { s.stream n with config := (s.stream n).config.altered a } (q' := Altering
    (s.stream n).measured ((s.page n).holdsRecord = true ∧ (s.stream n).config.ageLimit ≠ 0)
    ((s.stream n).state.silenceRuns = true ∧ a.silence.getD (s.stream n).config.silence ≠ 0)
    ((s.page n).holdsRecord = true ∧ a.ageLimit.getD (s.stream n).config.ageLimit ≠ 0)) (fun _ pg m =>
      have holds := m.2 ▸ pg.holdsRecord_iff
      ⟨⟨m.1.head, Iff.rfl, and_congr_left' holds.symm⟩, m.1.silence, m.1.age.trans (and_congr_left' holds).symm⟩)
  exact s.alterStream_eq n a ▸ State.At.rearmBy (State.At.rearmBy altered (q' := Altering _ _ _ _) (fun _ _ _ m => m.2.1)
    (fun _ _ _ _ e m => ⟨m.1, e, m.2.2⟩)) (fun _ _ _ m => m.2.2) (fun _ _ _ _ e m =>
      .intro m.1.1 (m.2.1.trans m.1.2.1.symm) (e.trans m.1.2.2.symm))

/-! ### The Delivery Engine -/

theorem State.At.setSupply {q : (DeadlineKind → Option Word) → Stream → PageState → Prop} (h : s.At p n q) (l : List Word)
    (hp : ∀ d st pg, q d st pg → q d st { pg with supply := l })
    (hs : ∀ d st pg c, q d st pg → q d { st with changed := c } pg) : (s.setSupply n l).At p n q :=
  (h.modPage _ hp).modStream _ (fun _ _ _ => hs _ _ _ _)

theorem Stream.aged_iff {st : Stream} {pg : PageState} {x : Page} (h : pg.current = some x) :
    st.aged pg ↔ 1 ≤ x.count ∧ st.config.ageLimit ≠ 0 :=
  and_congr_left' ⟨fun hp => hp.elim (fun _ hy => Option.some.inj (h.symm.trans hy.1) ▸ hy.2), fun hx => ⟨x, h, hx⟩⟩

/-- A page just opened holds no record (R83). -/
theorem State.At.openPage (h : s.At p n Timed) (tick : Word) : (s.openPage n tick).At p n Timed := by
  delta State.openPage
  generalize hc : (s.page n).current = x
  generalize (s.page n).supply = l
  induction x
  case none =>
    induction l
    case nil => exact h
    case cons =>
      exact State.At.modPage (State.At.setSupply (q := fun d st pg => Timed d st pg ∧ pg.current = none)
        (h.given (fun m => ⟨m, hc⟩)) _ (fun _ _ _ => by exact id) (fun _ _ _ _ => by exact id)) _ (fun _ _ _ m => ⟨m.1.1, m.1.2.1, entryIff_none (m.1.age.none
          (not_aged_of_none m.2)) (fun ha => absurd ((Stream.aged_iff rfl).1 ha).1 (Nat.not_succ_le_zero 0))⟩)
  case some => exact h

theorem State.At.issueClose (h : s.At p n Timed) : (s.issueClose n).1.At p n Timed :=
  s.issueClose_fst n ▸ h.modPage _ (fun _ _ _ => by exact id)

theorem State.At.beginRecord (h : s.At p n Timed) : (s.beginRecord n).At p n Timed := by
  delta State.beginRecord
  dsimp only
  generalize (s.page n).current = x
  generalize (s.stream n).queue = l
  induction l
  case nil =>
    induction x
    iterate 2 exact h
  case cons =>
    induction x
    case none => exact (h.openPage _).lane _
    case some => exact .ite (fun _ => h.lane _) (fun _ => (h.closePage _ _ _).issueClose.lane _)

end

end Sys2Proof.Machine
end

section
/-! SUPPORT. The completions of the Delivery Engine keep the entries of a stream as the law asks. -/

namespace Sys2Proof.Machine

open Sys2Proof

section
variable {n : StreamId} {p : Prop} {s : State}

/-- AGE stands as the law asks of the page with one record less: the count of its first record arms it (R84). -/
def Counted (d : DeadlineKind → Option Word) (st : Stream) (pg : PageState) : Prop :=
  (HeadEntry d st ∧ entryIff (d .silence) st.measured ∧ (st.closing ≠ none → st.wound))
    ∧ entryIff (d .age) ((∃ x, pg.current = some x ∧ 2 ≤ x.count) ∧ st.config.ageLimit ≠ 0)

theorem PageState.countRecord_current (pg : PageState) (sequence : Half) (r : Nat) :
    (pg.countRecord sequence r).current = pg.current.map (Page.withRecord sequence r) := by
  delta PageState.countRecord
  generalize hc : pg.current = x
  induction x
  iterate 2 rfl

theorem State.At.countRecord (h : s.At p n StillClosing) (sequence : Half) (r : Nat) :
    (s.modPage n (PageState.countRecord sequence r)).At p n Counted := by
  refine h.modPage _ (fun d st pg m => ⟨⟨m.1.1, m.1.2.1, m.2⟩, m.1.2.2.trans (and_congr_left' ?_)⟩)
  rw [PageState.countRecord_current]
  exact ⟨fun hx => hx.elim (fun x hx => ⟨_, congrArg _ hx.1, Nat.succ_le_succ hx.2⟩), fun hy => hy.elim (fun y hy =>
    (Option.map_eq_some_iff.1 hy.1).elim (fun x hx => ⟨x, hx.1, Nat.le_of_succ_le_succ (hx.2.symm ▸ hy.2 : 2 ≤ (Page.withRecord sequence r x).count)⟩))⟩

/-- The page that counts its first record arms AGE; with more records the entry stands (R84). -/
theorem State.At.armAge (h : s.At p n Counted) : (s.armAge n).At p n StillClosing := by
  have stays (e : ∀ x, (s.page n).current = some x → ¬ (x.count = 1 ∧ (s.stream n).config.ageLimit ≠ 0)) :
      s.At p n StillClosing := h.given (fun m => ⟨⟨m.1.1, m.1.2.1, m.2.trans (and_congr_left (fun limit => exists_congr
    (fun x => and_congr_right (fun hx => ⟨Nat.le_of_lt, fun hc => Nat.lt_of_le_of_ne hc (fun one =>
      e x hx ⟨one.symm, limit⟩)⟩))))⟩, m.1.2.2⟩)
  delta State.armAge
  generalize hc : (s.page n).current = x at stays
  induction x
  case none => exact stays (fun x hx => absurd hx (Option.some_ne_none x).symm)
  case some x =>
    exact .ite (fun first => State.At.arm (q := fun d st pg => Counted d st pg ∧ st.aged pg) (h.given (fun m =>
        ⟨m, ⟨x, hc, Nat.le_of_eq first.1.symm⟩, first.2⟩)) .age _ (fun _ _ m =>
          ⟨⟨m.1.1.1, m.1.1.2.1, entryIff_some rfl m.2⟩, m.1.1.2.2⟩))
      (fun more => stays (fun _ hx => Option.some.inj hx ▸ more))

/-- A record has left the queue for its page, and the closing sequence may go on (R84). -/
theorem State.At.recordWritten (h : s.At p n StillClosing) : (s.recordWritten n).At p n Timed := by
  delta State.recordWritten
  generalize (s.stream n).queue = l
  induction l
  case nil => exact h.weaken (fun _ _ _ => And.left)
  case cons r rest _ =>
    have left : ((s.modStream n (fun st => { st with queue := rest })).freeBuffers r.content.buffers).At p n StillClosing :=
      (h.touch _ (fun _ _ _ => by exact id)).store _
    exact State.At.testDrained (State.At.laneDone (State.At.lane (State.At.armAge (State.At.countRecord left _ _)) _))

theorem State.At.pageClosed {q : (DeadlineKind → Option Word) → Stream → PageState → Prop} (h : s.At p n q)
    (hp : ∀ d st pg x, q d st pg → q d st { pg with closingPage := x })
    (hs : ∀ d st pg c x, q d st pg → q d { st with counters := c, changed := x } pg) : (s.pageClosed n).At p n q :=
  State.At.raiseIf (State.At.tally ((h.modPage _ (fun _ _ _ => hp _ _ _ _)).modStream _ (fun _ _ _ => hs _ _ _ _ _)) _) _ _

theorem State.face_flushDone (s : State) (n : StreamId) : (s.flushDone n).face = s.face := by
  delta State.flushDone
  generalize s.walker.activity = a
  induction a
  case waitFlush =>
    dsimp only
    split
    iterate 2 exact @rfl _ s.face
  all_goals exact @rfl _ s.face

/-- A page close of its own has completed, and the closing sequence may go on (R88). -/
theorem State.At.closeFinished (h : s.At p n StillClosing) : (s.closeFinished n).At p n Timed :=
  have closed : (s.pageClosed n).laneFree.At p n StillClosing := (h.pageClosed (fun _ _ _ _ => by exact id) (fun _ _ _ _ _ => by exact id)).lane _
  State.At.closeDone (.ite (fun _ => closed.of_face (State.face_flushDone _ _)) (fun _ => closed))

theorem State.At.fullFinished (h : s.At p n Timed) (begun : Word) : (s.fullFinished n begun).At p n Timed :=
  (State.At.openPage (h.pageClosed (fun _ _ _ _ => by exact id) (fun _ _ _ _ _ => by exact id)) begun).lane _

/-- A stream in its closing sequence has neither HEAD nor SILENCE (R13). -/
theorem State.Orderly.wound (h : s.Orderly) (hc : (s.stream n).closing ≠ none) : (s.stream n).wound := by
  obtain ⟨c, hc⟩ := Option.ne_none_iff_exists'.1 hc
  obtain ⟨draining, empty⟩ := (h.closing n).draining c hc
  exact .inr ⟨draining, empty⟩

end

end Sys2Proof.Machine
end

section
/-! SUPPORT. The commands beside the streams, the stop sequence and the resets keep the law of the Deadline Queue. -/

namespace Sys2Proof.Machine

open Sys2Proof

section
variable {p : Prop} {s : State} (h : s.Scheduled p)

/-! ### Operations beside the streams -/

theorem State.LinkFrame.face {l : LinkId} {t : State} (k : State.LinkFrame l s t) : t.face = s.face := by
  delta State.face
  rw [k.time, k.streams, k.pages]

theorem State.LinkFrame.scheduled {l : LinkId} {t : State} (k : State.LinkFrame l s t) (h : s.Scheduled p) : t.Scheduled p :=
  h.of_face k.face

/-- Without an entry, with every stream CLOSED and no page current, the law holds (R175, R178). -/
theorem State.Fresh.scheduled (k : s.Fresh) (empty : s.time.deadlines = []) : s.Scheduled p :=
  have law := s.deadlineLaw_iff.1 (k.deadlineLaw empty)
  ⟨law.1, fun _ => law.2 trivial⟩

include h

theorem State.Scheduled.enterFaulted (r : FaultReason) (a : Word) : (s.enterFaulted r a).Scheduled p :=
  h.of_face ((congrArg State.face s.abandonFlight_frame).trans (@rfl _ s.face))

theorem State.Scheduled.flightFails (r : FaultReason) : (s.flightFails r).Scheduled p :=
  .ite (fun _ => by
    generalize s.port.flight = x
    induction x
    case none => exact h
    case some => exact h.enterFaulted _ _) (fun _ => h)

theorem State.Scheduled.enterStarting : s.enterStarting.Scheduled p :=
  have begun : State.Scheduled p { s with global := .starting, faultReason := .none, faultAddr := 0 } := h
  .ite (fun _ => h) (fun _ => begun.enterFaulted _ _)

theorem State.Scheduled.nudge : s.nudge.Scheduled p := by
  delta State.nudge
  generalize s.global = x
  induction x
  case active =>
    generalize s.walker.state = x
    induction x
    all_goals exact h
  all_goals exact h

theorem State.Scheduled.dropUnissued : s.dropUnissued.Scheduled p := by
  delta State.dropUnissued
  generalize s.walker.activity = x
  induction x
  case linkRead | fetch => exact .ite (fun _ => h) (fun _ => h)
  all_goals exact h

/-! ### The stop sequence -/

theorem State.Scheduled.stopStream (n : StreamId) : (s.stopStream n).Scheduled p :=
  .ite (fun _ => (State.At.closeNow (h.at n) .stop).scheduled) (fun _ => h)

theorem State.Scheduled.stopStreams (l : List StreamId) : (l.foldl State.stopStream s).Scheduled p := by
  induction l generalizing s
  case nil => exact h
  case cons n _ ih => exact ih (h.stopStream n)

theorem State.Scheduled.stop1 : s.stop1.Scheduled p := .ite (fun _ => h) (fun _ => h)

theorem State.Scheduled.stop2 : s.stop2.Scheduled p :=
  have parked : State.Scheduled p { s with global := .stopping .links, walker := { s.walker with state := .parked } } := h
  .ite (fun _ => (State.linkFrame_linkOff _ .b).scheduled ((State.linkFrame_linkOff _ .a).scheduled parked)) (fun _ => h)

theorem State.Scheduled.stop3 : s.stop3.Scheduled p :=
  .ite (fun _ => State.Scheduled.stopStreams (s := { s with global := .stopping .streams }) h _) (fun _ => h)

theorem State.Scheduled.stop4 : s.stop4.Scheduled p := by
  delta State.stop4
  refine .ite (fun _ => ?_) (fun _ => h)
  delta State.joinChanged
  generalize Vector.ofFn _ = marks
  exact h

theorem State.Scheduled.stop5 : s.stop5.Scheduled p :=
  have idle : (s.enterIdle.raise causeStopped).Scheduled p := s.fresh_enterIdle.scheduled rfl
  .ite (fun _ => .ite (fun _ => idle.enterStarting) (fun _ => idle)) (fun _ => h)

theorem State.Scheduled.advanceStop : s.advanceStop.Scheduled p := h.stop1.stop2.stop3.stop4.stop5

theorem State.Scheduled.enterStopping : s.enterStopping.Scheduled p :=
  State.Scheduled.advanceStop (s := { s.dropUnissued with global := .stopping .order }) h.dropUnissued

/-! ### The register window and the periods -/

theorem State.Scheduled.writeRun (v : Bool) : (s.writeRun v).Scheduled p := by
  have written : State.Scheduled p { s with run := v } := h
  delta State.writeRun
  generalize ({ s with run := v } : State) = t at written ⊢
  dsimp only
  generalize s.global = x
  induction x
  case idle => exact .ite (fun _ => written.enterStarting) (fun _ => written)
  case active => exact .ite (fun _ => written) (fun _ => written.enterStopping)
  case faulted => exact .ite (fun _ => written) (fun _ => (State.fresh_enterIdle _).scheduled rfl)
  all_goals exact written

theorem State.Scheduled.writeControl (v : Word) : (s.writeControl v).Scheduled p :=
  .ite (fun _ => s.fresh_softReset.scheduled rfl)
    (fun _ => .ite (fun _ => (h.writeRun _).nudge) (fun _ => h.writeRun _))

theorem State.Scheduled.writeWindow (offset : BitVec 5) (size : AccessSize) (v : Word) :
    (s.writeWindow offset size v).Scheduled p := by
  refine .ite (fun _ => h) (fun _ => ?_)
  induction size
  case word =>
    dsimp only
    split
    · exact h.writeControl v
    · exact .ite (fun _ => h) (fun _ => h)
    all_goals exact h
  all_goals exact h

theorem State.Scheduled.countDivider : s.countDivider.Scheduled p :=
  .ite (fun _ => .ite (fun _ => h) (fun _ => h)) (fun _ => h)

theorem State.Scheduled.clockPeriod : s.clockPeriod.Scheduled p := by
  have counts (u : State) (hu : u.Scheduled p) : ((u.countDivider.countLine .a).countLine .b).Scheduled p :=
    (State.linkFrame_countLine _ .b).scheduled ((State.linkFrame_countLine _ .a).scheduled hu.countDivider)
  have used : State.Scheduled p { s with freeCount := s.freeCount + 1 } := h
  exact .ite (fun _ => .ite (fun _ => used.flightFails _) (fun _ => (counts _ used).flightFails _)) (fun _ => counts s h)

end

end Sys2Proof.Machine
end

section
/-! SUPPORT. The commands beside the streams keep the law of the Deadline Queue. -/

namespace Sys2Proof.Machine

open Sys2Proof

/-- What the outcome leads to, if it leads to a state, keeps the law. -/
def Settled (p : Prop) : Host.Outcome State Fault Refusal → Prop
  | .next t => t.Scheduled p
  | .fault _ | .refused _ => True

section
variable {p : Prop} {s : State} {o o' : Host.Outcome State Fault Refusal}

theorem Settled.ite {c : Prop} [Decidable c] (h : c → Settled p o) (h' : ¬ c → Settled p o') :
    Settled p (if c then o else o') := by
  split
  · exact h ‹_›
  · exact h' ‹_›

variable (h : s.Scheduled p)
include h

/-! ### The memory port and the Time Base -/

theorem State.Scheduled.enterActive (d : Nat) (sweep tally : Half) (base : Word) :
    (s.enterActive d sweep tally base).Scheduled p := by
  delta State.enterActive
  generalize s.tally.pending.map joined = marks
  exact .ite (fun _ => h) (fun _ => State.Scheduled.enterStopping h)

theorem settled_rootReadComplete (r : BitVec 256) : Settled p (execRootReadComplete r s) := by
  delta execRootReadComplete
  generalize s.global = x
  generalize s.port.flight = y
  induction x
  case starting =>
    induction y
    case none => exact h
    case some =>
      exact .ite (fun _ => .ite (fun _ => State.Scheduled.enterActive (s := s.land _) h _ _ _ _)
        (fun _ => State.Scheduled.enterFaulted (s := s.land _) h _ _)) (fun _ => h)
  all_goals exact h

/-- What a requester presents leaves the law as it is. -/
theorem State.Scheduled.present (r : Requester) : (s.present r).elim True (fun x => x.2.Scheduled p) := by
  delta State.present
  induction r
  case walker =>
    dsimp only
    generalize s.walker.issue _ = x
    induction x
    case none => exact trivial
    case some => exact h
  case delivery =>
    dsimp only
    generalize s.lane.todo = x
    induction x
    case nil => exact trivial
    case cons => exact h
  case tally =>
    dsimp only
    generalize s.tally.write = x
    induction x
    case none => exact trivial
    case some w =>
      dsimp only
      generalize w.todo = x
      induction x
      case nil => exact trivial
      case cons => exact h

theorem State.Scheduled.firstPresent (l : List Requester) :
    (s.firstPresent l).elim True (fun x => x.2.2.Scheduled p) := by
  induction l
  case nil => exact trivial
  case cons r l ih =>
    have presented := h.present r
    unfold State.firstPresent
    generalize s.present r = x at presented
    induction x
    case none => exact ih
    case some => exact presented

theorem settled_memoryGrant : Settled p (execMemoryGrant s) := by
  have presented := h.firstPresent s.port.lastGranted.after
  refine .ite (fun _ => ?_) (fun _ => h)
  generalize s.firstPresent _ = x at presented
  induction x
  case none => exact h
  case some => exact presented

theorem settled_memoryResponse : Settled p (execMemoryResponse s) := by
  delta execMemoryResponse
  generalize s.inFlight = x
  induction x
  case none => exact h
  case some => exact .ite (fun _ => .ite (fun _ => h) (fun _ => h)) (fun _ => h)

theorem settled_sweepTimerExpiry : Settled p (execSweepTimerExpiry s) :=
  .ite (fun _ => State.Scheduled.nudge (s := { s with time := { s.time with sweep := s.time.sweep.rearmed } }) h)
    (fun _ => h)

theorem State.Scheduled.joinChanged : s.joinChanged.Scheduled p := by
  delta State.joinChanged
  generalize Vector.ofFn _ = marks
  exact h

theorem settled_tallyTimerExpiry : Settled p (execTallyTimerExpiry s) :=
  .ite (fun _ => State.Scheduled.joinChanged (s := { s with time := { s.time with tally := s.time.tally.rearmed } }) h)
    (fun _ => h)

/-! ### The Acceptance Unit -/

theorem State.Scheduled.releaseStaging (l : LinkId) (i : Fin 2) : (s.releaseStaging l i).Scheduled p :=
  (s.linkFrame_setRx l _).scheduled h

theorem State.Scheduled.settleTake (l : LinkId) (i : Fin 2) (f : Frame) : (s.settleTake l i f).Scheduled p := by
  have counted (x : AcceptanceCounters → AcceptanceCounters) : ((s.countAcceptance x).releaseStaging l i).Scheduled p :=
    State.Scheduled.releaseStaging (s := s.countAcceptance x) h l i
  delta State.settleTake
  generalize s.fate l f = x
  induction x
  case stray =>
    refine State.Scheduled.releaseStaging (State.At.raiseIf ?_ _ _) l i
    exact h
  case offered => exact h
  all_goals exact counted _

theorem State.Scheduled.takeFrom (l : LinkId) : (s.takeFrom l).Scheduled p := by
  have moved (r : Receiver) (a : Acceptance) : State.Scheduled p { s.setRx l r with acceptance := a } :=
    (s.linkFrame_setRx l r).scheduled h
  delta State.takeFrom
  generalize (s.rx l).order = x
  induction x
  case nil => exact h
  case cons =>
    dsimp only
    generalize Staging.frame _ = x
    induction x
    case none => exact h
    case some => exact (moved _ _).settleTake l _ _

theorem settled_take : Settled p (execTake s) := by
  refine .ite (fun _ => ?_) (fun _ => h)
  generalize s.arbitratedLink = x
  induction x
  case none => exact h
  case some => exact h.takeFrom _

end

end Sys2Proof.Machine
end

section
/-! SUPPORT. The Order Walker, the routes and the tally writer keep the law of the Deadline Queue. -/

namespace Sys2Proof.Machine

open Sys2Proof

section
variable {p : Prop} {s : State} (h : s.Scheduled p)
include h

/-! ### The orders beside the streams -/

theorem State.Scheduled.orderFetched (addr : Word) (r : BitVec 512) : (s.orderFetched addr r).Scheduled p := by
  refine .ite (fun _ => h) (fun _ => ?_)
  generalize checkOrder r = x
  induction x
  iterate 2 exact h

theorem settled_orderFetchComplete (r : BitVec 512) : Settled p (execOrderFetchComplete r s) := by
  delta execOrderFetchComplete
  generalize s.inFlight = x
  generalize s.walker.activity = y
  induction x
  case none => exact h
  case some =>
    induction y
    case fetch => exact .ite (fun _ => State.Scheduled.orderFetched (s := s.land _) h _ _) (fun _ => h)
    all_goals exact h

theorem settled_setRoute : Settled p (execSetRoute s) := by
  refine .ite (fun _ => ?_) (fun _ => h)
  generalize s.walker.activity = x
  split
  · generalize s.conflictIndex _ _ = x
    induction x
    iterate 2 exact h
  · exact h

theorem settled_clearRoute : Settled p (execClearRoute s) := by
  refine .ite (fun _ => ?_) (fun _ => h)
  generalize s.walker.activity = x
  split
  · split
    iterate 2 exact h
  · exact h

theorem settled_setLink : Settled p (execSetLink s) := by
  refine .ite (fun _ => ?_) (fun _ => h)
  generalize s.walker.activity = x
  split
  · exact (s.linkFrame_setLink _ _ _ _).scheduled h
  · exact h

theorem settled_writeTally : Settled p (execWriteTally s) := by
  refine .ite (fun _ => ?_) (fun _ => h)
  generalize s.walker.activity = x
  split
  · dsimp only
    generalize Vector.ofFn _ = marks
    exact h
  · exact h

theorem settled_readStrays : Settled p (execReadStrays s) := by
  refine .ite (fun _ => ?_) (fun _ => h)
  generalize s.walker.activity = x
  split
  · exact .ite (fun _ => h) (fun _ => h)
  · exact h

theorem settled_barrier : Settled p (execBarrier s) := by
  refine .ite (fun _ => ?_) (fun _ => h)
  generalize s.walker.activity = x
  split
  · exact .ite (fun _ => h) (fun _ => h)
  · exact h

/-! ### The completions of the walker and of the tally writer -/

theorem State.Scheduled.linkValue (v : Word) : (s.linkValue v).Scheduled p :=
  .ite (fun _ => .ite (fun _ => h) (fun _ => h)) (fun _ => .ite (fun _ => h) (fun _ => h.enterFaulted _ _))

theorem settled_linkReadComplete (v : Word) : Settled p (execLinkReadComplete v s) := by
  delta execLinkReadComplete
  generalize s.inFlight = x
  induction x
  case none => exact h
  case some tx =>
    have landed : (s.land tx).Scheduled p := h
    refine .ite (fun _ => ?_) (fun _ => h)
    generalize s.global = x
    induction x
    case active => exact landed.linkValue v
    all_goals exact State.Scheduled.advanceStop (s := (s.land tx).setActivity .idle) landed

theorem State.Scheduled.countFinal (ref : RecordRef) (r : Result) : (s.countFinal ref r).Scheduled p := by
  delta State.countFinal
  generalize r.code.refuses = x
  refine State.At.raiseIf ?_ _ _
  induction x
  iterate 2 exact h

theorem State.Scheduled.drainGone (n : StreamId) : (s.drainGone n).Scheduled p := by
  delta State.drainGone
  dsimp only
  generalize List.filter _ _ = left
  generalize s.global = x
  generalize s.walker.heldBarrier = y
  induction left
  case nil =>
    induction x
    case active =>
      induction y
      case none => exact h
      case some => exact .ite (fun _ => h) (fun _ => h)
    all_goals exact h
  case cons => exact h

theorem State.Scheduled.barrierGone (ref : RecordRef) : (s.barrierGone ref).Scheduled p := .ite (fun _ => h) (fun _ => h)

theorem State.Scheduled.outcomeWritten (o : OutcomeWrite) : (s.outcomeWritten o).Scheduled p := by
  have counted (w : Walker) (r : Result) : ((s.setWalker w).countFinal o.ref r).Scheduled p :=
    State.Scheduled.countFinal (s := s.setWalker w) h _ _
  delta State.outcomeWritten
  generalize o.kind = x
  induction x
  case taken source =>
    induction source
    iterate 2 exact h
  case final _ y =>
    induction y
    case none => exact counted _ _
    case some source =>
      induction source
      · exact (counted _ _).drainGone _
      · exact (counted _ _).barrierGone _

theorem settled_outcomeStateWriteComplete : Settled p (execOutcomeStateWriteComplete s) := by
  delta execOutcomeStateWriteComplete
  generalize s.inFlight = x
  generalize s.walker.writing = y
  induction x
  case none => exact h
  case some tx =>
    induction y
    case none => exact h
    case some =>
      have written := (State.Scheduled.outcomeWritten (s := s.land tx) h ‹_›).advanceStop
      dsimp only
      generalize tx.role = x
      induction x
      case outcomeState => exact written
      all_goals exact h

theorem settled_strayEntryWriteComplete : Settled p (execStrayEntryWriteComplete s) := by
  delta execStrayEntryWriteComplete
  generalize s.inFlight = x
  generalize s.walker.activity = y
  induction x
  case none => exact h
  case some =>
    induction y
    case strays => exact .ite (fun _ => h) (fun _ => h)
    all_goals exact h

theorem State.Scheduled.tallyOrderDone (w : TallyWrite) : (s.tallyOrderDone w).Scheduled p := by
  delta State.tallyOrderDone
  generalize s.walker.activity = y
  induction y
  case waitTally => exact .ite (fun _ => h) (fun _ => h)
  all_goals exact h

theorem settled_tallyWriteComplete : Settled p (execTallyWriteComplete s) := by
  delta execTallyWriteComplete
  generalize s.inFlight = x
  generalize s.tally.write = y
  induction x
  case none => exact h
  case some =>
    induction y
    case none => exact h
    case some =>
      refine .ite (fun _ => ?_) (fun _ => h)
      dsimp only
      generalize Vector.set _ _ _ _ = serials
      refine State.Scheduled.advanceStop (State.Scheduled.tallyOrderDone ?_ _)
      exact h

end

end Sys2Proof.Machine
end

section
/-! The commands on a stream keep the law of the Deadline Queue, and so does every step (O54). -/

namespace Sys2Proof.Machine

open Sys2Proof

theorem State.Orderly.current_none {s : State} {n : StreamId} (h : s.Orderly) (closed : (s.stream n).state = .closed) :
    (s.page n).current = none := by
  obtain ⟨-, -, -, current, -⟩ := (h.closing n).closed closed
  exact current

section
variable {p : Prop} {s : State} (h : s.Scheduled p)
include h

/-! ### The expiries and the offer -/

theorem settled_headExpiry (n : StreamId) : Settled p (execHeadExpiry n s) := by
  delta execHeadExpiry
  generalize s.expired n .head = x
  induction x
  case none => exact h
  case some due =>
    have fired := State.At.headExpiry ((h.at n).cancel (q' := HeadTaken) .head (fun _ _ _ m => ⟨rfl, m.2⟩)) due
    dsimp only
    generalize State.headExpiry _ _ _ = y at fired
    induction y
    case none => exact trivial
    case some => exact State.At.scheduled fired

theorem settled_silenceExpiry (n : StreamId) : Settled p (execSilenceExpiry n s) := by
  delta execSilenceExpiry
  generalize s.expired n .silence = x
  induction x
  case none => exact h
  case some => exact (h.at n).silenceExpiry.scheduled

theorem settled_ageExpiry (n : StreamId) : Settled p (execAgeExpiry n s) := by
  delta execAgeExpiry
  generalize s.expired n .age = x
  induction x
  case none => exact h
  case some => exact ((h.at n).ageExpiry _ _ _).scheduled

theorem settled_offer : Settled p (execOffer s) := by
  refine .ite (fun _ => ?_) (fun _ => h)
  generalize s.acceptance.held = x
  induction x
  case none => exact h
  case some f =>
    have taken := State.At.takeOffer ((State.Scheduled.releaseStaging (s := { s with
      acceptance := { s.acceptance with held := none } }) h f.link f.index).at f.stream) f.frame f.link
    dsimp only
    generalize State.takeOffer _ _ _ _ = y at taken
    induction y
    case none => exact trivial
    case some => exact (State.At.scheduled taken).advanceStop

/-! ### The orders on a stream -/

theorem State.Scheduled.opening {n : StreamId} (o : p → s.Orderly) (closed : (s.stream n).state = .closed) :
    s.At p n (fun d st pg => Winding d st pg ∧ pg.current = none) :=
  ⟨h.1, fun hp => ((h.at n).2 hp).imp_right (fun m => ⟨⟨m, .inl closed⟩, (o hp).current_none closed⟩)⟩

theorem State.Scheduled.holdsHead {n : StreamId} (o : p → s.Orderly) : s.At p n HoldsHead :=
  ⟨h.1, fun hp => ((h.at n).2 hp).imp_right (fun m => ⟨fun hb => m.head_of_runs (hb.elim (fun b hm =>
    (((o hp).stream n).held b hm).imp_right (fun hd => ⟨hd, hb⟩))), m.2.2⟩)⟩

theorem State.Scheduled.stillClosing {n : StreamId} (o : p → s.Orderly) : s.At p n StillClosing :=
  ⟨h.1, fun hp => ((h.at n).2 hp).imp_right (fun m => ⟨m, (o hp).wound⟩)⟩

theorem settled_openStream (o : p → s.Orderly) : Settled p (execOpenStream s) := by
  refine .ite (fun _ => ?_) (fun _ => h)
  generalize s.walker.activity = x
  split
  · exact .ite (fun _ => h) (fun hc => .ite (fun _ => ((h.opening o (not_not.1 (fun e => hc (.inl e)))).openStream _).scheduled)
      (fun _ => h))
  · exact h

theorem settled_drainClose (o : p → s.Orderly) : Settled p (execDrainClose s) := by
  refine .ite (fun _ => ?_) (fun _ => h)
  generalize s.walker.activity = x
  split
  · rename_i ref n
    have drained := ((h.holdsHead (n := n) o).drainClose ref).scheduled
    generalize (s.stream n).state = x
    induction x
    case closed | draining => exact h
    all_goals exact drained
  · exact h

theorem settled_immediateClose : Settled p (execImmediateClose s) := by
  refine .ite (fun _ => ?_) (fun _ => h)
  generalize s.walker.activity = x
  split
  · rename_i ref n
    exact .ite (fun _ => h) (fun _ => .ite (fun _ => h) (fun _ => (State.At.closeNow
      (State.Scheduled.at (s := s.setActivity (.waitClose ref n)) h n) .close).scheduled))
  · exact h

theorem settled_alterStream : Settled p (execAlterStream s) := by
  refine .ite (fun _ => ?_) (fun _ => h)
  generalize s.walker.activity = x
  split
  · exact .ite (fun _ => h) (fun _ => ((h.at _).alterStream _).scheduled)
  · exact h

theorem State.Scheduled.setSupply (n : StreamId) (l : List Word) : (s.setSupply n l).Scheduled p :=
  ((h.at n).setSupply l (fun _ _ _ => by exact id) (fun _ _ _ _ => by exact id)).scheduled

theorem settled_attachPages : Settled p (execAttachPages s) := by
  refine .ite (fun _ => ?_) (fun _ => h)
  generalize s.walker.activity = x
  split
  · exact .ite (fun _ => h) (fun _ => h.setSupply _ _)
  · exact h

theorem settled_flushPage : Settled p (execFlushPage s) := by
  refine .ite (fun _ => ?_) (fun _ => h)
  generalize s.walker.activity = x
  split
  · refine .ite (fun _ => h) (fun _ => ?_)
    split
    · exact ((h.at _).closePage .flush true false).scheduled
    · exact h
  · exact h

/-! ### The write lane and the tally writer -/

theorem settled_recordOperation : Settled p (execRecordOperation s) := by
  delta execRecordOperation
  generalize s.laneTurn .record = x
  induction x
  case none => exact h
  case some n => exact (h.at n).beginRecord.scheduled

theorem settled_recordWriteComplete (o : p → s.Orderly) : Settled p (execRecordWriteComplete s) := by
  delta execRecordWriteComplete
  generalize s.inFlight = x
  generalize s.lane.op = y
  induction x
  case none => exact h
  case some tx =>
    induction y
    case none => exact h
    case some op =>
      induction op
      case record n _ =>
        exact .ite (fun _ => (State.At.recordWritten (s := s.land tx) (h.stillClosing o)).scheduled.advanceStop) (fun _ => h)
      all_goals exact h

theorem settled_pageCloseIssue : Settled p (execPageCloseIssue s) := by
  delta execPageCloseIssue
  generalize s.laneTurn .close = x
  induction x
  case none => exact h
  case some n => exact (h.at n).issueClose.scheduled

theorem settled_pageCloseComplete (o : p → s.Orderly) : Settled p (execPageCloseComplete s) := by
  delta execPageCloseComplete
  generalize s.inFlight = x
  generalize s.lane.op = y
  induction x
  case none => exact h
  case some tx =>
    induction y
    case none => exact h
    case some op =>
      induction op
      case record n begun =>
        exact .ite (fun _ => (State.At.fullFinished (s := s.land tx) (h.at n) begun).scheduled.advanceStop) (fun _ => h)
      case pageClose =>
        exact .ite (fun _ => (State.At.closeFinished (s := s.land tx) (h.stillClosing o)).scheduled.advanceStop) (fun _ => h)
      case giveBack => exact h

theorem settled_returnIssue : Settled p (execReturnIssue s) := by
  delta execReturnIssue
  generalize s.laneTurn .giveBack = x
  induction x
  case none => exact h
  case some n =>
    exact State.At.scheduled (n := n) (State.At.lane (State.At.touch ((h.setSupply n []).at n) _ (fun _ _ _ => by exact id)) _)

theorem settled_returnComplete (o : p → s.Orderly) : Settled p (execReturnComplete s) := by
  have winds (n : StreamId) (hop : s.lane.op = some (.giveBack n)) : s.At p n Winding :=
    ⟨h.1, fun hp => ((h.at n).2 hp).imp_right (fun m => ⟨m, (((o hp).closing n).giveBack hop).elim (fun _ hc =>
      (o hp).wound (hc.1 ▸ Option.some_ne_none _))⟩)⟩
  delta execReturnComplete
  generalize s.inFlight = x
  generalize s.lane.op = y at winds
  induction x
  case none => exact h
  case some tx =>
    induction y
    case none => exact h
    case some op =>
      induction op
      case giveBack n =>
        exact .ite (fun _ => (State.At.closeStep4 (s := (s.land tx).laneFree) (winds n rfl) _).weaken (fun _ _ _ => And.left)
          |>.scheduled.advanceStop) (fun _ => h)
      all_goals exact h

theorem State.Scheduled.snapRecord (i : Fin 65) (zero : Bool) : (s.snapRecord i zero).Scheduled p := by
  delta State.snapRecord
  split
  · exact ((h.at _).touch _ (fun _ _ _ => by exact id)).scheduled
  · exact .ite (fun _ => h) (fun _ => h)

theorem settled_tallySnapshot : Settled p (execTallySnapshot s) := by
  refine .ite (fun _ => ?_) (fun _ => h)
  generalize s.tally.next = x
  induction x
  case none => exact h
  case some x => exact h.snapRecord x.1 x.2.zero

end

end Sys2Proof.Machine
end

section
/-! The law of the Deadline Queue is kept by every step (O54). -/

namespace Sys2Proof.Machine

open Sys2Proof

/-- A symbol on a line changes its receiver alone. -/
theorem State.Scheduled.symbol {p : Prop} {s : State} (h : s.Scheduled p) (l : LinkId) {f g : State → State}
    (hf : ∀ u, State.LinkFrame l u (f u)) (hg : ∀ u, State.LinkFrame l u (g u)) : (s.symbol l f g).Scheduled p :=
  (s.linkFrame_symbol l f g hf hg).scheduled h

/-- Every command keeps the law. -/
theorem settled_exec (c : Instr) {p : Prop} {s : State} (h : s.Scheduled p) (o : p → s.Orderly) : Settled p (exec c s) := by
  have broken (l : LinkId) (u : State) : State.LinkFrame l u (u.breakIdleRun l) := u.linkFrame_setRx l _
  induction c
  case run | nudge | srst | causeClear | enableWrite | rootWrite | registerWriteIgnored => exact h.writeWindow _ _ _
  case pinReset => exact s.fresh_pinReset.scheduled rfl
  case pinResetRelease => exact h
  case rootReadComplete => exact settled_rootReadComplete h _
  case memoryGrant => exact settled_memoryGrant h
  case memoryResponse => exact settled_memoryResponse h
  case busError | busTimeout => exact h.flightFails _
  case tick => exact .ite (fun _ => h) (fun _ => h)
  case headExpiry => exact settled_headExpiry h _
  case silenceExpiry => exact settled_silenceExpiry h _
  case ageExpiry => exact settled_ageExpiry h _
  case sweepTimerExpiry => exact settled_sweepTimerExpiry h
  case tallyTimerExpiry => exact settled_tallyTimerExpiry h
  case idleSymbol l => exact h.symbol l (State.linkFrame_idleInHunt · l) (State.linkFrame_idleInUp · l)
  case startSymbol l => exact h.symbol l (broken l) (State.linkFrame_startInUp · l)
  case dataSymbol l b => exact h.symbol l (broken l) (State.linkFrame_dataInUp · l b)
  case endSymbol l => exact h.symbol l (broken l) (State.linkFrame_endInUp · l)
  case violationSymbol l => exact h.symbol l (broken l) (State.linkFrame_violationInUp · l)
  case lineLoss l => exact (s.linkFrame_lineLoss l).scheduled h
  case take => exact settled_take h
  case offer => exact settled_offer h
  case orderFetchComplete => exact settled_orderFetchComplete h _
  case openStream => exact settled_openStream h o
  case drainClose => exact settled_drainClose h o
  case immediateClose => exact settled_immediateClose h
  case alterStream => exact settled_alterStream h
  case attachPages => exact settled_attachPages h
  case flushPage => exact settled_flushPage h
  case setRoute => exact settled_setRoute h
  case clearRoute => exact settled_clearRoute h
  case setLink => exact settled_setLink h
  case writeTally => exact settled_writeTally h
  case readStrays => exact settled_readStrays h
  case barrier => exact settled_barrier h
  case linkReadComplete => exact settled_linkReadComplete h _
  case outcomeStateWriteComplete => exact settled_outcomeStateWriteComplete h
  case strayEntryWriteComplete => exact settled_strayEntryWriteComplete h
  case recordOperation => exact settled_recordOperation h
  case recordWriteComplete => exact settled_recordWriteComplete h o
  case pageCloseIssue => exact settled_pageCloseIssue h
  case pageCloseComplete => exact settled_pageCloseComplete h o
  case returnIssue => exact settled_returnIssue h
  case returnComplete => exact settled_returnComplete h o
  case tallySnapshot => exact settled_tallySnapshot h
  case tallyWriteComplete => exact settled_tallyWriteComplete h

/-- Every step keeps the law. -/
theorem settled_step {p : Prop} {s : State} (h : s.Scheduled p) (o : p → s.Orderly) : Settled p (step s) := by
  delta step
  generalize s.pending = l
  induction l
  case nil => exact h.clockPeriod
  case cons _ rest _ =>
    exact settled_exec _ (s := { s with pending := rest }) h (fun hp => (o hp).beside (by apply State.Beside.of_eq <;> rfl))

/-- Settles O54: one proof for both parts, which assumes of the law no more than each part does (`State.At`). -/
theorem stepKeepsDeadlineLaw : Obligations.StepKeepsDeadlineLaw := by
  have kept {p : Prop} {s t : State} (h : s.Scheduled p) (o : p → s.Orderly) (e : step s = .next t) : t.Scheduled p :=
    (congrArg (Settled p) e).mp (settled_step h o)
  exact ⟨fun s _ h e => (kept (p := False) (s := s) ⟨h, False.elim⟩ False.elim e).1,
    fun s t h e => t.deadlineLaw_iff.2 (kept (s.deadlineLaw_iff.1 h.deadlines) (fun _ => h.orderly) e)⟩

end Sys2Proof.Machine
end

namespace Sys2Proof.Machine

-- Each part is a chain of equations between outcomes. A function of the chain takes as arguments the values its step
-- rewrites, so each step is one congruence and no term writes out a stream or a state anew. The names are `letI`, which
-- leaves nothing in the compiled file: what a definition and a lemma per name would add there, the audit cannot hold.
set_option linter.style.haveILetI false in
/-- Settles O23: SILENCE cuts the stream, and AGE begins the close of the page it stands for. -/
theorem silenceAndAgeExpiries : Obligations.SilenceAndAgeExpiries := by
  constructor
  · intro s n due hdue hs st gone
    -- The entry has left the queue; then the buffers are back and HEAD is cancelled; the flushed stream; the cut one.
    letI left := s.cancel n .silence
    letI freed := (left.windowFreed n).cancel n .head
    letI flushed := st.windowFlushed
    letI cut : Stream := (fun st : Stream => { st with state := .cut, changed := true }) flushed
    letI noted : Stream → Stream := fun st =>
      ({ st with notes := { st.notes with cut := true } } : Stream).tally (fun c => { c with cuts := c.cuts + 1 })
    -- A change of state chooses between the state that stands and the changed one (`State.changeState_setStream`).
    letI choose (x : StreamState) (a b : State) := if x = .cut then a else b
    -- The outcome by the state x of the stream, where t is what its change of state leaves under a choice.
    letI outcome (n : StreamId) (w : State) (x : StreamState) (t : (State → State → State) → State) :
        Host.Outcome State Fault Refusal :=
      .next (match x with
        | .acquiring | .running | .stalled => ((t (choose x)).modStream n noted).alarm n
        | .closed | .cut | .draining => w)
    letI expiry (o : Option Word) (t : State) : Host.Outcome State Fault Refusal :=
      match o with
      | none => .next s
      | some _ => outcome n left st.state (fun _ => t)
    letI either (a b : State) (c : State → State → State) := c a b
    letI changed := either (freed.setStream n flushed) ((freed.setStream n cut).join n.castSucc)
    letI raised (i : Fin 65) (q : State) (v : Stream) : Host.Outcome State Fault Refusal :=
      .next ((q.join i).raiseIf v.config.options.notifyAlarms causeAlarm)
    letI done := freed.setStream n (noted cut)
    refine Eq.trans (b := outcome n left st.state changed) ?_ (Eq.trans (b := outcome n left .running changed) ?_
      (Eq.trans (b := raised n.castSucc done (done.stream n)) ?_ ?_))
    · -- The entry is due, and the window is flushed before the state changes.
      exact congrArg₂ (y' := changed (choose st.state)) expiry (State.expired_of_due hdue)
        (Eq.trans (b := (freed.setStream n flushed).changeState n .cut)
          (congrArg (a₂ := (left.windowFreed n).setStream n flushed)
            (fun q : State => (q.cancel n .head).changeState n .cut) (left.flushWindow_eq n))
          (freed.changeState_setStream n flushed .cut))
    · -- The three states in which SILENCE is armed have one outcome.
      exact congrFun (hs.elim (c := outcome n left st.state = outcome n left .running) (congrArg (outcome n left))
        (@Or.rec _ _ _ (congrArg (outcome n left)) (congrArg (outcome n left)))) changed
    · -- The note and the count go to the stream just set.
      exact congrArg (a₁ := (freed.setStream n cut).modStream n noted) (a₂ := done)
        (fun q => Host.Outcome.next ((q.join n.castSucc).alarm n)) (freed.modStream_modStream n (fun _ => cut) noted)
    · -- The alarm looks at the options of that stream.
      exact congrArg (a₂ := noted cut) (raised n.castSucc done) (freed.stream_setStream_self n (noted cut))
  · intro s n due p hdue hp
    letI expiry (o : Option Word) (c : Option Page) (t : State) : Host.Outcome State Fault Refusal :=
      match o with
      | none => .next s
      | some _ => .next (match c with
        | some p => t.setPage n { s.page n with
            current := none, closingPage := some { page := p, reason := .age, flushWaits := false, issued := false } }
        | none => s.cancel n .age)
    exact (congr (congrArg₂ expiry (State.expired_of_due hdue) hp) (s.cancel_cancel n .age) :)

end Sys2Proof.Machine
